-- ==== Sys2Proof/Word.lean ====
section
/-! DEFINITION. The words and the numbers of the Rhopal CX6: bytes, 16-bit values, window addresses, the numbers of legs, actuators, slots and speed classes. -/

namespace Sys2Proof

/-- One byte of the register window or of a serial transfer. -/
abbrev Byte := BitVec 8

/-- A 16-bit value of the register window, low byte at the lower address (section 4 of 00_scope.md). -/
abbrev Half := BitVec 16

/-- An address of the register window, 00h to 7Fh (R166). -/
abbrev Addr := BitVec 7

/-- A leg field of an actuator entry or page: 0 is none, 1 to 6 are L1 to L6 (R1), and the page holds 0 to 15 (R6). -/
abbrev LegField := BitVec 4

/-- A leg: 0 is L1, 5 is L6. -/
abbrev LegNo := Fin 6

/-- An actuator, A0 to A7. -/
abbrev ActNo := Fin 8

/-- A slot of the order pool, S0 to S15. -/
abbrev SlotNo := Fin 16

/-- A speed class, SC0 to SC3. -/
abbrev ClassNo := Fin 4

/-- A length of time in units of 0.5 us, the finest time base of the manual (00_scope.md, Time bases). -/
abbrev Ticks := Nat

end Sys2Proof
end

