-- ==== Sys2Proof/Syntax.lean ====
section
/-! DEFINITION. The commands of the block: one constructor for each row of spec/opcode_table.json. The rows name no operand fields; the operands are what the step needs from outside (log 1). -/

namespace Sys2Proof

/-- Where the die stands when a full reset ends (R136): at or below the warn rise threshold, above it, or above
the shutdown rise threshold too. -/
inductive DieAtReset where
  | cool
  | aboveWarn
  | aboveShutdown
  deriving DecidableEq, Repr

/-- Where VBR stands when a full reset ends (R145). -/
inductive VbrAtReset where
  /-- outside the outer window -/
  | outside
  /-- inside the outer window but outside the re-entry window -/
  | between
  /-- inside the re-entry window -/
  | reentry
  deriving DecidableEq, Repr

/-- The order to which a timer's expiry is addressed (R44): its slot, and its number among all orders accepted, by which
it differs from every other order that ever uses the slot (log 7). -/
structure OrderRef where
  slot : SlotNo
  serial : Nat
  deriving DecidableEq, Repr

/-- The run of a timer to which an expiry is addressed (R87): the order the timer belongs to, and which of the timer's
runs in that order (log 7). -/
structure TimerRef where
  order : OrderRef
  run : Nat
  deriving DecidableEq, Repr

/-- The run of a leg to which an event of the leg is addressed: the leg, and how often it has stopped conducting before
(R29, R32, R149, log 7). -/
structure LegRef where
  leg : LegNo
  run : Nat
  deriving DecidableEq, Repr

/-- The commands (spec/opcode_table.json). A data byte's address is the port's address pointer (R168, R169); what a
command reads from COMMAND_ARG and COMMAND_VALUE it reads from State (R176). -/
inductive Instr where
  /-- SELN_FALLING (R165) -/
  | selnFalling
  /-- HEADER_BYTE (R166): the eight header bits -/
  | headerByte (b : Byte)
  /-- TRANSFER_END (R165, R171): the number of bits of an unfinished byte that had arrived, 0 on a byte boundary -/
  | transferEnd (bits : Fin 8)
  /-- REGISTER_WRITE (R168): the data byte on SDI -/
  | registerWrite (v : Byte)
  /-- SUBMIT (R54): any value written to 28h -/
  | submit (v : Byte)
  /-- APPLY (R7): any value written to 4Fh -/
  | apply (v : Byte)
  /-- ACT_SEL_WRITE (R5): the value written to 40h -/
  | actSelWrite (v : Byte)
  /-- FLAGS_WRITE (R159): the value written to 02h or 03h -/
  | flagsWrite (v : Byte)
  /-- MASK_WRITE (R161): the value written to 04h or 05h -/
  | maskWrite (v : Byte)
  /-- PASSLIM_WRITE (R81): the value written to 1Dh -/
  | passlimWrite (v : Byte)
  /-- WARMCAP_WRITE (R95): the value written to 1Eh -/
  | warmcapWrite (v : Byte)
  /-- COMPLETION_WINDOW_READ (R152): the byte at the pointer, 30h to 38h, has been shifted out -/
  | completionWindowRead
  /-- COMPLETION_POP (R153): the byte at 39h has been shifted out -/
  | completionPop
  /-- POSITION_READ (R172): the byte at 50h has been shifted out -/
  | positionRead
  /-- RUN (R66): 01h written to COMMAND -/
  | run
  /-- STOP (R127): 02h written to COMMAND -/
  | stop
  /-- RESUME (R122): 03h written to COMMAND -/
  | resume
  /-- CANCEL_ACT (R130): 10h written to COMMAND -/
  | cancelAct
  /-- CANCEL_TAG (R130): 11h written to COMMAND -/
  | cancelTag
  /-- CANCEL_SLOT (R130): 12h written to COMMAND -/
  | cancelSlot
  /-- CANCEL_ALL (R130): 13h written to COMMAND -/
  | cancelAll
  /-- CLEAR_LEG (R36): 20h written to COMMAND -/
  | clearLeg
  /-- CLEAR_THERMAL (R142): 21h written to COMMAND -/
  | clearThermal
  /-- SET_POSITION (R18): 30h written to COMMAND -/
  | setPosition
  /-- MOTION_RESET (R133): 3Fh written to COMMAND -/
  | motionReset
  /-- UNKNOWN_COMMAND (R176): a code that names no command, written to COMMAND -/
  | unknownCommand (code : Byte)
  /-- RIPPLE_PULSE (R13): a pulse of the actuator's detector -/
  | ripplePulse (a : ActNo)
  /-- RAMP_EXPIRY (R91) of the run named (R44, R87) -/
  | rampExpiry (r : TimerRef)
  /-- WINDOW_EXPIRY (R98) of the run named (R44, R102) -/
  | windowExpiry (r : TimerRef)
  /-- TIMEOUT_EXPIRY (R101) of the move named (R44) -/
  | timeoutExpiry (r : OrderRef)
  /-- BRAKE_TIMER_EXPIRY (R105) of the move named (R44) -/
  | brakeTimerExpiry (r : OrderRef)
  /-- FENCE_DELAY_EXPIRY (R108) of the fence named (R44) -/
  | fenceDelayExpiry (r : OrderRef)
  /-- SUSPEND_LIMIT_EXPIRY (R123) of the run named (R44, R121) -/
  | suspendLimitExpiry (r : TimerRef)
  /-- RESTART_DELAY_EXPIRY (R120) of the restart delay named: the first to start is 1, and it is meant where no number is
  given (R118, log 7) -/
  | restartDelayExpiry (run : Nat := 1)
  /-- DEAD_INTERVAL_END (R29) of the run named of a leg -/
  | deadIntervalEnd (r : LegRef)
  /-- OVER_CURRENT (R33) detected in the run named of a leg (R149) -/
  | overCurrent (r : LegRef)
  /-- HOLD_ASSERTED (R112) -/
  | holdAsserted
  /-- HOLD_RELEASED (R114) -/
  | holdReleased
  /-- SUPPLY_OUT (R117) -/
  | supplyOut
  /-- SUPPLY_IN_RANGE (R119) -/
  | supplyInRange
  /-- WARN_RISE (R138) -/
  | warnRise
  /-- WARN_FALL (R138) -/
  | warnFall
  /-- SHUTDOWN_RISE (R139) -/
  | shutdownRise
  /-- SHUTDOWN_FALL (R141) -/
  | shutdownFall
  /-- FULL_RESET (R181) begins -/
  | fullReset
  /-- RESET_END (R181): the die, VBR, whether HOLDN is low and whether SELN is low, as they stand then -/
  | resetEnd (die : DieAtReset) (vbr : VbrAtReset) (holdLow selnLow : Bool)
  /-- OUTER_WINDOW_REENTRY (R144) -/
  | outerWindowReentry
  deriving DecidableEq, Repr

end Sys2Proof
end

