-- ==== Sys2Proof/WellFormed.lean ====
section
/-! DEFINITION. Which commands are well formed. The operand types carry every range but one: an UNKNOWN_COMMAND must carry a code that names no command (R176). -/

namespace Sys2Proof

/-- The codes that name a command (the command table of R176). -/
def commandCodes : List Byte :=
  [0x01, 0x02, 0x03, 0x10, 0x11, 0x12, 0x13, 0x20, 0x21, 0x30, 0x3F]

/-- Well formed: the command is a step the block can be sent. -/
def Instr.wellFormed : Instr → Bool
  | .unknownCommand code => !commandCodes.contains code
  | .selnFalling | .headerByte _ | .transferEnd _ | .registerWrite _ | .submit _ | .apply _ | .actSelWrite _
  | .flagsWrite _ | .maskWrite _ | .passlimWrite _ | .warmcapWrite _ | .completionWindowRead | .completionPop
  | .positionRead | .run | .stop | .resume | .cancelAct | .cancelTag | .cancelSlot | .cancelAll | .clearLeg
  | .clearThermal | .setPosition | .motionReset | .ripplePulse _ | .rampExpiry _ | .windowExpiry _
  | .timeoutExpiry _ | .brakeTimerExpiry _ | .fenceDelayExpiry _ | .suspendLimitExpiry _ | .restartDelayExpiry _
  | .deadIntervalEnd _ | .overCurrent _ | .holdAsserted | .holdReleased | .supplyOut | .supplyInRange
  | .warnRise | .warnFall | .shutdownRise | .shutdownFall | .fullReset | .resetEnd _ _ _ _
  | .outerWindowReentry => true

end Sys2Proof
end

