-- ==== Sys2Proof/Decode.lean ====
section
/-! DEFINITION. The command that a table word spells. spec/opcode_table.json gives no row any bits (every row's "fields" is empty and none has "fixed"), so no word spells a command. -/

namespace Sys2Proof

/-- No row of spec/opcode_table.json has bits, so every word is refused. -/
def decodeTableWord (_nbits _w : Nat) : Option Instr := none

end Sys2Proof
end

