-- ==== Sys2Proof/Config.lean ====
section
/-! DEFINITION. What the part fixes (R177) and what the manual leaves free. -/

namespace Sys2Proof.Config

/-- PART at 00h (R177). -/
def partCode : Byte := 0xC6

/-- REVISION at 01h (R177). -/
def revision : Byte := 0x01

/-- FREE VALUE (log 6). Which of several expiries that are due at the same moment is taken first: the manual gives the
result of either order and fixes none. Applied to the counter `arrivals` of State and to the number of expiries due. It
has no body, so nothing can be proved about its values. -/
opaque firstDue : Nat → Nat → Nat

/-- FREE VALUE (log 15). Whether 35h and 37h, read after a removal at 39h and a wrap, show the removed record (R151) or
the new head (R172, R179): the manual states both and sets neither aside. It has no body. -/
opaque wrapShowsRemoved : Bool

/-- FREE VALUE (log 23). Whether the 03h byte shows a flag set after its capture and before its read (R157) or not (R169,
R179): the manual states both and sets neither aside. It has no body. -/
opaque lateFlagShows : Bool

end Sys2Proof.Config
end

