-- ==== Sys2Proof/Machine/State.lean ====
section
/-! DEFINITION. The state of the block, as the manual gives it, its value at full reset, and the reasons a step can stop. -/

namespace Sys2Proof.Machine

/-! ### Orders, moves and records (chapters 3 and 5) -/

/-- The kinds of order (R47). -/
inductive Kind where
  | moveTo
  | moveBy
  | seekEnd
  | fence
  deriving DecidableEq, Repr

/-- The direction of a move: open is +1, close is -1 (R49, R74). -/
inductive Dir where
  | opening
  | closing
  deriving DecidableEq, Repr

/-- The outcomes (R109); code 0, NONE, is no order's outcome. -/
inductive Ending where
  | done
  | endFound
  | stalled
  | timeout
  | cancelled
  | stopped
  | overcurrent
  | thermal
  | supply
  | range
  | noReference
  | legOff
  deriving DecidableEq, Repr

/-- The phases of an active move (R86); an active fence is WAITING and is `SlotState.waiting`. -/
inductive Phase where
  | starting
  | running
  | approaching
  | braking
  | held
  | suspended
  deriving DecidableEq, Repr

/-- One speed class (R178): the duties in 64ths. -/
structure SpeedClass where
  start : Byte
  run : Byte
  step : Byte
  approach : Byte
  deriving DecidableEq, Repr

/-- The order record (R46). `serial` is the model's own: the number of the order, counted at acceptance, by which an
expiry names the order it is addressed to (R44, log 7). -/
structure Order where
  kind : Kind
  actuator : ActNo
  arg : Half
  speed : ClassNo
  timeout : Byte
  ext : Bool
  notify : Bool
  tag : Byte
  pass : BitVec 4
  serial : Nat
  deriving DecidableEq, Repr

/-- The move record (R49) of a MOVE_TO, MOVE_BY or SEEK_END, with its ramp level (R91) and its timers (R87); a
timer is its time left, absent while it does not run. -/
structure Move where
  dir : Dir
  target : Option Int
  snapshot : SpeedClass
  phase : Phase
  rampLevel : Byte
  duty : Byte
  outcome : Option Ending
  driven : Half
  coast : Byte
  /-- driving time (R101) in units of 0.5 us; the field the host reads is `Move.drivingTime` -/
  driveTicks : Ticks
  firstSeen : Bool
  /-- timeout remaining; it counts in the driving phases only -/
  timeoutLeft : Option Ticks
  extHeld : Bool
  holdPending : Bool
  rampTimer : Option Ticks
  window : Option Ticks
  brakeTimer : Option Ticks
  suspendTimer : Option Ticks
  /-- the model's own: how often the ramp timer, the window and the suspend limit have started, by which an expiry names
  the run it belongs to (log 7) -/
  rampRun : Nat
  windowRun : Nat
  suspendRun : Nat
  deriving DecidableEq, Repr

/-- The completion record (R52); the slot number is the slot's own. `notify` is the order's flag, which the
completion level counts (R156, log 20). -/
structure Record where
  tag : Byte
  kind : Kind
  actuator : ActNo
  outcome : Ending
  position : Half
  driven : Half
  coast : Byte
  driving : Byte
  pass : BitVec 4
  ext : Bool
  notify : Bool
  deriving DecidableEq, Repr

/-- A slot and what it holds (R40, R62). ACTIVE is `active` for a move and `waiting` for a fence, whose move record
is its phase WAITING and the time left of its delay (R49). -/
inductive SlotState where
  | free
  | queued (o : Order)
  | active (o : Order) (m : Move)
  | waiting (o : Order) (left : Ticks)
  | done (r : Record)
  deriving DecidableEq, Repr

/-! ### Legs (chapter 2) -/

/-- The type of a claim (R22). -/
inductive ClaimType where
  | drive
  | ret
  deriving DecidableEq, Repr

/-- A claim: its owner's slot and its type (R22). -/
structure Claim where
  slot : SlotNo
  type : ClaimType
  deriving DecidableEq, Repr

/-- The demands a leg can have (R25). -/
inductive Demand where
  | float
  | low
  | high
  | mod
  | ext
  deriving DecidableEq, Repr

/-- The states of a leg (R21). BREAK carries the demand recorded for its end and the time left (R28, R29). OFF is
the OFF latch (R33). -/
inductive LegState where
  | float
  | low
  | high
  | mod
  | ext
  | brk (next : Demand) (left : Ticks)
  | off
  deriving DecidableEq, Repr

/-- A leg: its state and its claims, in the order in which they were added. `run` is the model's own: how often the leg
has stopped conducting, by which a detection and the end of a dead interval name the run of the leg they belong to
(R29, R149, log 7). -/
structure Leg where
  state : LegState
  claims : List Claim
  run : Nat
  deriving DecidableEq, Repr

/-! ### The actuator table (chapter 1) -/

/-- The configuration fields, of an entry (R1) and of the actuator page (R6). -/
structure ActConfig where
  posLeg : LegField
  negLeg : LegField
  enable : Byte
  min : Half
  max : Half
  openEnd : Half
  closeEnd : Half
  approach : Byte
  startWin : Byte
  stallWin : Byte
  strayLimit : Byte
  deriving DecidableEq, Repr

/-- The reset values of R1. -/
def ActConfig.reset : ActConfig where
  posLeg := 0
  negLeg := 0
  enable := 0
  min := 0x8000
  max := 0x7FFF
  openEnd := 0
  closeEnd := 0
  approach := 16
  startWin := 30
  stallWin := 10
  strayLimit := 8

/-- An entry of the actuator table: configuration and live fields (R1, R3). -/
structure Actuator where
  config : ActConfig
  position : Half
  valid : Bool
  stray : Byte
  activeSlot : Option SlotNo
  deriving DecidableEq, Repr

/-- An entry at full reset (R1, R3, R20). -/
def Actuator.reset : Actuator where
  config := ActConfig.reset
  position := 0
  valid := false
  stray := 0
  activeSlot := none

/-! ### Result codes, staging, settings -/

/-- The APPLY results (R7). -/
inductive ApplyResult where
  | none
  | ok
  | busy
  | badArg
  | pairUsed
  | conflict
  deriving DecidableEq, Repr

/-- The SUBMIT results (R54). -/
inductive SubmitResult where
  | none
  | accepted
  | full
  | badKind
  | noActuator
  | badSpeed
  | badArg
  | badFlags
  | range
  deriving DecidableEq, Repr

/-- The command results (R176). -/
inductive CmdResult where
  | none
  | ok
  | state
  | badArg
  | unknown
  deriving DecidableEq, Repr

/-- The staging area (R53), bytes as written; ARG is its two bytes. -/
structure Staging where
  kind : Byte
  act : Byte
  arg : Half
  speed : Byte
  timeout : Byte
  flags : Byte
  tag : Byte
  deriving DecidableEq, Repr

/-- The global settings at 18h to 1Fh (R177). -/
structure Settings where
  dead : Byte
  brake : Byte
  ramp : Byte
  restart : Byte
  suspend : Byte
  passLimit : Byte
  warmCap : Byte
  autoResume : Bool
  deriving DecidableEq, Repr

/-! ### Monitors and port -/

/-- The thermal states (R136). -/
inductive Thermal where
  | normal
  | warm
  | shutdown
  | cooled
  deriving DecidableEq, Repr

/-- The supply states (R116); RECOVERING carries the time left of the restart delay (R119). -/
inductive Supply where
  | inRange
  | out
  | recovering (left : Ticks)
  deriving DecidableEq, Repr

/-- A captured byte of a read transfer (R169): its value, the high byte captured with the low byte of a 16-bit
value (R172; 00h for other addresses), and whether it is a window byte captured while the completion order was
empty (R152). -/
structure Captured where
  value : Byte
  high : Byte
  empty : Bool
  deriving DecidableEq, Repr

/-- The transfer states (R165), each with what the port holds in it (R180). -/
inductive Port where
  | idle
  | header (status : Byte)
  | data (write : Bool) (pointer : Addr) (out : Captured)
  | ignore
  deriving DecidableEq, Repr

/-! ### The whole state -/

/-- The state of the block. -/
structure State where
  inReset : Bool
  acts : Vector Actuator 8
  actSel : ActNo
  page : ActConfig
  applyResult : ApplyResult
  legs : Vector Leg 6
  slots : Vector SlotState 16
  acceptance : List SlotNo
  completion : List SlotNo
  staging : Staging
  submitResult : SubmitResult
  assignedSlot : Option SlotNo
  slotSel : SlotNo
  running : Bool
  grant : Option SlotNo
  settings : Settings
  speeds : Vector SpeedClass 4
  thermal : Thermal
  warnSet : Bool
  shutdownSet : Bool
  supply : Supply
  insideOuter : Bool
  armed : Bool
  holdOn : Bool
  flags : Half
  mask : Half
  emptyView : Bool
  port : Port
  shadowFinal : Option Byte
  shadowDriven : Option Byte
  shadowPosition : Option Byte
  cmdArg : Byte
  cmdValue : Half
  cmdResult : CmdResult
  cmdDetail : Byte
  /-- The model's own counter for the free order of expiries (log 6). -/
  arrivals : Nat
  /-- The model's own counter: the number that the next accepted order gets (log 7). -/
  serial : Nat
  /-- The model's own counter: how many restart delays have started (log 7). -/
  restartRun : Nat
  /-- The commands waiting, first in, first out. -/
  pending : List Instr
  deriving DecidableEq, Repr

/-- The state that a full reset gives every piece (R181): the reset is still under way, and RESET_END follows. The
values of the thermal, supply-window and hold monitors, which the manual takes from the pins at the end of the reset,
are the model's choice until then (log 9). -/
def State.reset : State where
  inReset := true
  acts := Vector.replicate 8 Actuator.reset
  actSel := 0
  page := ActConfig.reset
  applyResult := .none
  legs := Vector.replicate 6 { state := .float, claims := [], run := 0 }
  slots := Vector.replicate 16 .free
  acceptance := []
  completion := []
  staging :=
    { kind := 0, act := 0, arg := 0, speed := 0, timeout := 0, flags := 0, tag := 0 }
  submitResult := .none
  assignedSlot := none
  slotSel := 0
  running := false
  grant := none
  settings :=
    { dead := 4, brake := 10, ramp := 2, restart := 5, suspend := 0, passLimit := 4, warmCap := 40,
      autoResume := false }
  speeds :=
    #v[{ start := 16, run := 32, step := 4, approach := 16 },
       { start := 16, run := 48, step := 4, approach := 20 },
       { start := 24, run := 64, step := 8, approach := 24 },
       { start := 8, run := 24, step := 2, approach := 12 }]
  thermal := .normal
  warnSet := false
  shutdownSet := false
  supply := .out
  insideOuter := true
  armed := true
  holdOn := false
  flags := 0
  mask := 0
  emptyView := false
  port := .idle
  shadowFinal := none
  shadowDriven := none
  shadowPosition := none
  cmdArg := 0
  cmdValue := 0
  cmdResult := .none
  cmdDetail := 0
  arrivals := 0
  serial := 0
  restartRun := 0
  pending := []

/-- The block has no fault that stops it: every refusal of the manual is a result code (log 22). -/
inductive Fault where
  deriving DecidableEq, Repr

/-- Why a step is refused. -/
inductive Refusal where
  /-- Raised by an arm of exec whose command has no meaning yet; safe, since nothing is claimed of it. No arm raises
  it now (log 22). -/
  | notModelled (mnemonic : String)
  deriving DecidableEq, Repr

end Sys2Proof.Machine
end

