-- ==== Sys2Proof/Machine/Ops.lean ====
section
/-! DEFINITION. The named operations over the state that every family uses: reading and changing an entry, a slot or a leg, time units, bytes of 16-bit values, and the forms a command's meaning takes. -/

namespace Sys2Proof.Machine

/-! ### Units and bytes -/

/-- 10 ms in units of 0.5 us. -/
def tenMs (n : Nat) : Ticks := n * 20000

/-- 100 ms in units of 0.5 us. -/
def hundredMs (n : Nat) : Ticks := n * 200000

/-- The low byte of a 16-bit value. -/
def lowByte (v : Half) : Byte := v.setWidth 8

/-- The high byte of a 16-bit value. -/
def highByte (v : Half) : Byte := (v >>> 8).setWidth 8

/-- The value with its low byte written: the old high byte stays (R168). -/
def withLow (v : Half) (b : Byte) : Half := highByte v ++ b

/-- The value with its high byte written: the old low byte stays (R168). -/
def withHigh (v : Half) (b : Byte) : Half := b ++ lowByte v

/-- A stored value held inside the range `lo` to `hi` (R177, R178). -/
def clamp (lo hi v : Byte) : Byte := if v < lo then lo else if hi < v then hi else v

/-! ### Entries, slots and legs -/

/-- The entry of an actuator. -/
def State.act (s : State) (a : ActNo) : Actuator := s.acts[a]

/-- The slot of the pool. -/
def State.slot (s : State) (i : SlotNo) : SlotState := s.slots[i]

/-- The leg. -/
def State.leg (s : State) (k : LegNo) : Leg := s.legs[k]

/-- The entry replaced. -/
def State.setAct (s : State) (a : ActNo) (e : Actuator) : State := { s with acts := s.acts.set a e }

/-- The slot replaced. -/
def State.setSlot (s : State) (i : SlotNo) (x : SlotState) : State := { s with slots := s.slots.set i x }

/-- The leg replaced. -/
def State.setLeg (s : State) (k : LegNo) (l : Leg) : State := { s with legs := s.legs.set k l }

/-- Every entry changed by the same rule. -/
def State.mapActs (s : State) (f : ActNo → Actuator → Actuator) : State :=
  { s with acts := Vector.ofFn fun a => f a (s.act a) }

/-- Every slot changed by the same rule. -/
def State.mapSlots (s : State) (f : SlotNo → SlotState → SlotState) : State :=
  { s with slots := Vector.ofFn fun i => f i (s.slot i) }

/-- Every leg changed by the same rule. -/
def State.mapLegs (s : State) (f : LegNo → Leg → Leg) : State :=
  { s with legs := Vector.ofFn fun k => f k (s.leg k) }

/-- The configuration of an order's actuator. -/
def State.config (s : State) (o : Order) : ActConfig := (s.act o.actuator).config

/-- The POSITION of an order's actuator, as a signed count. -/
def State.position (s : State) (o : Order) : Int := (s.act o.actuator).position.toInt

/-- ENABLE is 1 (R2). -/
def ActConfig.enabled (c : ActConfig) : Bool := c.enable == 1

/-- The leg a leg field names: 1 to 6 are L1 to L6, and any other value names none (R1). -/
def legOf (f : LegField) : Option LegNo :=
  match f.toNat with
  | 1 => some 0
  | 2 => some 1
  | 3 => some 2
  | 4 => some 3
  | 5 => some 4
  | 6 => some 5
  | _ => none

/-! ### What a slot holds -/

/-- FREE (R40). -/
def SlotState.isFree : SlotState → Bool
  | .free => true
  | .queued _ | .active _ _ | .waiting _ _ | .done _ => false

/-- QUEUED (R40). -/
def SlotState.isQueued : SlotState → Bool
  | .queued _ => true
  | .free | .active _ _ | .waiting _ _ | .done _ => false

/-- ACTIVE: a move or a waiting fence (R40). -/
def SlotState.isActive : SlotState → Bool
  | .active _ _ | .waiting _ _ => true
  | .free | .queued _ | .done _ => false

/-- DONE (R40). -/
def SlotState.isDone : SlotState → Bool
  | .done _ => true
  | .free | .queued _ | .active _ _ | .waiting _ _ => false

/-- The order record of a QUEUED or ACTIVE slot (R46). -/
def SlotState.order : SlotState → Option Order
  | .queued o | .active o _ | .waiting o _ => some o
  | .free | .done _ => none

/-- The move record of an active move (R49). -/
def SlotState.move : SlotState → Option Move
  | .active _ m => some m
  | .free | .queued _ | .waiting _ _ | .done _ => none

/-- The slot holds an order of kind MOVE_TO, MOVE_BY or SEEK_END for the actuator, not ended (R8). -/
def SlotState.ordersFor (a : ActNo) (x : SlotState) : Bool :=
  match x.order with
  | some o => o.kind != .fence && o.actuator == a
  | none => false

/-- The driving phases (R86). -/
def Phase.driving : Phase → Bool
  | .starting | .running | .approaching => true
  | .braking | .held | .suspended => false

/-- The slot holds an active move in a phase that `p` selects. -/
def SlotState.inPhase (p : Phase → Bool) (x : SlotState) : Bool :=
  match x.move with
  | some m => p m.phase
  | none => false

/-- The active move in the slot changed, if there is one. -/
def SlotState.mapMove (f : Order → Move → Move) : SlotState → SlotState
  | .active o m => .active o (f o m)
  | .free => .free
  | .queued o => .queued o
  | .waiting o n => .waiting o n
  | .done r => .done r

/-- The number of the order that a slot holds QUEUED or ACTIVE (log 7). -/
def SlotState.number (x : SlotState) : Option Nat := x.order.map Order.serial

/-- An event addressed to an order: it is taken at the slot while that order is there, and it never reaches another
order (R44). -/
def State.forOrder (r : OrderRef) (f : SlotNo → State → State) (s : State) : State :=
  if (s.slot r.slot).number = some r.serial then f r.slot s else s

/-- An expiry addressed to a run of a timer that an order starts more than once, counted by `count`: one that belongs to
an earlier run finds the timer stopped or started anew and is dropped (R87, R102, R121). -/
def State.forTimer (count : Move → Nat) (r : TimerRef) (f : SlotNo → State → State) (s : State) : State :=
  if (s.slot r.order.slot).move.map count = some r.run then State.forOrder r.order f s else s

/-- An event addressed to a run of a leg: one that belongs to an earlier run is dropped (R29, R32, R149). -/
def State.forLeg (r : LegRef) (f : LegNo → State → State) (s : State) : State :=
  if (s.leg r.leg).run = r.run then f r.leg s else s

/-- An event addressed to a restart delay, counted from 1: one of a delay that has ended is dropped (R118, R120). -/
def State.forRestart (run : Nat) (f : State → State) (s : State) : State := if s.restartRun = run then f s else s

/-- The active move of one slot changed. -/
def State.onMove (s : State) (i : SlotNo) (f : Order → Move → Move) : State :=
  s.setSlot i ((s.slot i).mapMove f)

/-- Every active move changed by the same rule. -/
def State.onMoves (s : State) (f : Order → Move → Move) : State :=
  s.mapSlots fun _ x => x.mapMove f

/-! ### The forms of a meaning -/

/-- A command that the block takes unless a full reset is under way: while one lasts the monitors deliver nothing,
the port takes nothing and no order exists (R181, log 11). -/
def whenLive (f : State → State) (s : State) : Host.Outcome State Fault Refusal :=
  .next (if s.inReset then s else f s)

end Sys2Proof.Machine
end

