-- ==== Sys2Proof/Machine/Flags.lean ====
section
/-! DEFINITION. Event flags, the completion level, the attention mask and ATTN (chapter 8), and the pressing of orders (R81). -/

namespace Sys2Proof.Machine

/-- The sticky flags (R157). -/
inductive Flag where
  | legFault
  | thermalWarn
  | thermalShutdown
  | thermalCooled
  | supplyOut
  | supplyIn
  | holdOn
  | holdOff
  | positionLost
  | frameErr
  | pressing
  deriving DecidableEq, Repr

/-- The bit position of a sticky flag (R157). -/
def Flag.bit : Flag → Nat
  | .legFault => 1
  | .thermalWarn => 2
  | .thermalShutdown => 3
  | .thermalCooled => 4
  | .supplyOut => 5
  | .supplyIn => 6
  | .holdOn => 7
  | .holdOff => 8
  | .positionLost => 9
  | .frameErr => 10
  | .pressing => 11

/-- The flag register with the flag's bit alone. -/
def Flag.word (f : Flag) : Half := 1#16 <<< f.bit

/-- The flag is set (R157). -/
def State.flag (s : State) (f : Flag) : Bool := s.flags &&& f.word != 0

/-- An event sets a sticky flag (R157). -/
def State.setFlag (s : State) (f : Flag) : State := { s with flags := s.flags ||| f.word }

/-- A step sets a sticky flag if a condition holds. -/
def State.setFlagIf (s : State) (b : Bool) (f : Flag) : State := if b then s.setFlag f else s

/-- The bits of the sticky flags, 1 to 11 (R157). -/
def stickyBits : Half := 0x0FFE

/-- A write of 1 clears: the flags whose bit is 1 in `w` become clear; bit 0 and bits 12 to 15 hold no sticky flag
(R159). -/
def State.clearFlags (s : State) (w : Half) : State := { s with flags := s.flags &&& ~~~(w &&& stickyBits) }

/-- The record in a slot counts toward the completion level (R156). -/
def SlotState.notified : SlotState → Bool
  | .done r => r.notify
  | .free | .queued _ | .active _ _ | .waiting _ _ => false

/-- The completion level: the slots of the completion order whose orders had NOTIFY set (R156). -/
def State.level (s : State) : Nat := s.completion.countP fun i => (s.slot i).notified

/-- COMPLETE reads 1 while the level is 1 or more (R156). -/
def State.complete (s : State) : Bool := 0 < s.level

/-- The event flags as 02h and 03h show them: the sticky flags and COMPLETE in bit 0 (R157). -/
def State.eventFlags (s : State) : Half := s.flags ||| (if s.complete then 1 else 0)

/-- ATTN is asserted while a position holds 1 in both the flags and the mask (R162). -/
def State.attn (s : State) : Bool := s.eventFlags &&& s.mask != 0

/-- The bits the mask holds, 0 to 11 (R161). -/
def maskBits : Half := 0x0FFF

/-! ### Pressing -/

/-- A PASS count presses under a limit: the limit is not 0 and the count is at or above it (R81). -/
def presses (limit : Byte) (pass : BitVec 4) : Bool := limit != 0 && decide (limit.toNat ≤ pass.toNat)

/-- The slot holds a QUEUED move order that presses under the limit (R81); a fence is never pressing (R72). -/
def SlotState.pressing (limit : Byte) : SlotState → Bool
  | .queued o => o.kind != .fence && presses limit o.pass
  | .free | .active _ _ | .waiting _ _ | .done _ => false

/-- Some QUEUED order that did not press in `s` presses in `t` (R81: what sets PRESSING). -/
def newlyPressing (s t : State) : Bool :=
  (List.finRange 16).any fun i =>
    (t.slot i).pressing t.settings.passLimit && !(s.slot i).pressing s.settings.passLimit

end Sys2Proof.Machine
end

