-- ==== Sys2Proof/Machine/Legs.lean ====
section
/-! DEFINITION. Legs and claims (chapter 2): what a leg's switches do, its demand, how it reaches the demand, and the events DEAD_INTERVAL_END. -/

namespace Sys2Proof.Machine

/-! ### Switches (R21, R148) -/

/-- What a switch of a leg does. `modulated` is on for duty/64 of each modulation period; `modin` is on while MODIN is
high (R21; where in the period a leg stands, and MODIN's level, are no state of the model, log 17). -/
inductive Switch where
  | off
  | on
  | modulated (duty : Byte)
  | modin
  deriving DecidableEq, Repr

/-- The high-side switch by leg state, for a leg that modulates with the duty (R21). -/
def LegState.highSide (duty : Byte) : LegState → Switch
  | .high => .on
  | .mod => .modulated duty
  | .ext => .modin
  | .float | .low | .brk _ _ | .off => .off

/-- The low-side switch by leg state (R21). -/
def LegState.lowSide : LegState → Switch
  | .low => .on
  | .float | .high | .mod | .ext | .brk _ _ | .off => .off

/-- A leg conducts while it is LOW, HIGH, MOD or EXT (R32). -/
def LegState.conducting : LegState → Bool
  | .low | .high | .mod | .ext => true
  | .float | .brk _ _ | .off => false

/-- The leg enters a state. When it stops conducting, by FLOAT, BREAK or OFF, its run ends: a detection made in that run
and not yet taken is lost (R32, R149). -/
def Leg.enter (l : Leg) (x : LegState) : Leg :=
  { l with state := x, run := if l.state.conducting && !x.conducting then l.run + 1 else l.run }

/-! ### Claims (R22) -/

/-- The leg carries a DRIVE claim. -/
def Leg.driven (l : Leg) : Bool := l.claims.any fun c => c.type == .drive

/-- The leg carries a claim. -/
def Leg.claimed (l : Leg) : Bool := !l.claims.isEmpty

/-- The slot holds a claim on the leg. -/
def Leg.claimedBy (l : Leg) (i : SlotNo) : Bool := l.claims.any fun c => c.slot == i

/-- A claim added to a leg. -/
def Leg.addClaim (l : Leg) (c : Claim) : Leg := { l with claims := l.claims ++ [c] }

/-- The slot's claim removed from a leg. -/
def Leg.dropClaim (l : Leg) (i : SlotNo) : Leg := { l with claims := l.claims.filter fun c => c.slot != i }

/-- The leg a field names carries a DRIVE claim; a field that names no leg carries none. -/
def State.drivenAt (s : State) (f : LegField) : Bool :=
  match legOf f with
  | some k => (s.leg k).driven
  | none => false

/-- The leg a field names carries a claim. -/
def State.claimedAt (s : State) (f : LegField) : Bool :=
  match legOf f with
  | some k => (s.leg k).claimed
  | none => false

/-- The leg a field names is OFF (R33). -/
def State.offAt (s : State) (f : LegField) : Bool :=
  match legOf f with
  | some k => (s.leg k).state == .off
  | none => false

/-- A claim added on the leg a field names. -/
def State.addClaim (s : State) (f : LegField) (c : Claim) : State :=
  match legOf f with
  | some k => s.setLeg k ((s.leg k).addClaim c)
  | none => s

/-- Both claims of a slot removed (R24). -/
def State.dropClaims (s : State) (i : SlotNo) : State := s.mapLegs fun _ l => l.dropClaim i

/-- An actuator between these legs, idle, would be driven: one leg carries a DRIVE claim and the other any claim
(R11, R77). -/
def State.drivenAcross (s : State) (c : ActConfig) : Bool :=
  (s.drivenAt c.posLeg && s.claimedAt c.negLeg) || (s.drivenAt c.negLeg && s.claimedAt c.posLeg)

/-! ### Demand (R25) -/

/-- The demand of a DRIVE claim, from its owner's phase, grant and current duty (R25). -/
def driveDemand (m : Move) : Demand :=
  match m.phase with
  | .starting | .running | .approaching =>
    if m.extHeld then .ext else if m.duty < 64 then .mod else .high
  | .braking | .held => .low
  | .suspended => .float

/-- The owner of a claim keeps a RETURN leg LOW: it is an active move and not SUSPENDED (R25). -/
def State.keepsLow (s : State) (c : Claim) : Bool := (s.slot c.slot).inPhase fun p => p != .suspended

/-- The demand of a leg that is not OFF, from its claims and their owners (R25). -/
def State.demand (s : State) (k : LegNo) : Demand :=
  match (s.leg k).claims.find? fun c => c.type == .drive with
  | some c =>
    match (s.slot c.slot).move with
    | some m => driveDemand m
    | none => .float
  | none => if (s.leg k).claims.any s.keepsLow then .low else .float

/-! ### What the switches do (R21) -/

/-- The active move that owns the leg's DRIVE claim (R22). -/
def State.driver (s : State) (k : LegNo) : Option Move :=
  ((s.leg k).claims.find? fun c => c.type == .drive).bind fun c => (s.slot c.slot).move

/-- The duty with which a leg modulates: the current duty of the move that owns its DRIVE claim (R21). Without such a
move the leg does not modulate. -/
def State.legDuty (s : State) (k : LegNo) : Byte :=
  match s.driver k with
  | some m => m.duty
  | none => 0

/-- What the high-side switch of a leg does (R21). -/
def State.highSide (s : State) (k : LegNo) : Switch := (s.leg k).state.highSide (s.legDuty k)

/-- What the low-side switch of a leg does (R21). -/
def State.lowSide (s : State) (k : LegNo) : Switch := (s.leg k).state.lowSide

/-! ### Reaching the demand (R27 to R30) -/

/-- The leg state a demand asks for. -/
def Demand.state : Demand → LegState
  | .float => .float
  | .low => .low
  | .high => .high
  | .mod => .mod
  | .ext => .ext

/-- What a leg does when it takes a demand, with the dead interval that a BREAK beginning now would have: the table
of R30, row by row. -/
def LegState.react (dead : Ticks) (d : Demand) : LegState → LegState
  | .off => .off
  | .float => d.state
  | .low =>
    match d with
    | .float => .float
    | .low => .low
    | .high => .brk .high dead
    | .mod => .brk .mod dead
    | .ext => .brk .ext dead
  | .high =>
    match d with
    | .low => .brk .low dead
    | .float | .high | .mod | .ext => d.state
  | .mod =>
    match d with
    | .low => .brk .low dead
    | .float | .high | .mod | .ext => d.state
  | .ext =>
    match d with
    | .low => .brk .low dead
    | .float | .high | .mod | .ext => d.state
  | .brk _ left =>
    match d with
    | .float => .float
    | .low => .brk .low left
    | .high => .brk .high left
    | .mod => .brk .mod left
    | .ext => .brk .ext left

/-- The length of a dead interval that begins now, in units of 0.5 us (R31). -/
def State.deadTicks (s : State) : Ticks := s.settings.dead.toNat

/-- Every leg re-evaluates its demand and acts on it (R26): for a leg whose demand has not changed this changes
nothing. -/
def State.settle (s : State) : State :=
  s.mapLegs fun k l => l.enter (l.state.react s.deadTicks (s.demand k))

/-! ### DEAD_INTERVAL_END -/

/-- The end of a dead interval: the leg enters the demand it holds (R29); a leg not in BREAK has no interval. -/
def LegState.endBreak : LegState → LegState
  | .brk d _ => d.state
  | .float => .float
  | .low => .low
  | .high => .high
  | .mod => .mod
  | .ext => .ext
  | .off => .off

/-- DEAD_INTERVAL_END (R29). -/
def State.deadIntervalEnd (k : LegNo) (s : State) : State :=
  s.setLeg k ((s.leg k).enter (s.leg k).state.endBreak)

/-- DEAD_INTERVAL_END (R29): the end of an interval that was abandoned is dropped (R27). -/
def execDeadIntervalEnd (r : LegRef) (s : State) : Host.Outcome State Fault Refusal :=
  whenLive (State.forLeg r State.deadIntervalEnd) s

end Sys2Proof.Machine
end

