-- ==== Sys2Proof/Machine/Pool.lean ====
section
/-! DEFINITION. The order pool's shared operations (chapter 3): the ending of orders, and the checks and the acceptance of a SUBMIT. -/

namespace Sys2Proof.Machine

/-! ### The ending of an order (R44) -/

/-- The driving-time field: whole 100 ms of driving time, holding at 255 (R101). -/
def Move.drivingTime (m : Move) : Byte := BitVec.ofNat 8 (min 255 (m.driveTicks / 200000))

/-- The final position of a record: the actuator's POSITION in the step of the ending, 0 for a FENCE (R52). -/
def State.finalPosition (s : State) (o : Order) : Half :=
  if o.kind = .fence then 0 else (s.act o.actuator).position

/-- The completion record of an order that never had a move record: zero counts and driving time (R52). -/
def State.recordOf (s : State) (o : Order) (e : Ending) : Record :=
  { tag := o.tag, kind := o.kind, actuator := o.actuator, outcome := e, position := s.finalPosition o,
    driven := 0, coast := 0, driving := 0, pass := o.pass, ext := o.ext, notify := o.notify }

/-- The completion record of an active move (R52). -/
def State.recordOfMove (s : State) (o : Order) (m : Move) (e : Ending) : Record :=
  { s.recordOf o e with driven := m.driven, coast := m.coast, driving := m.drivingTime }

/-- The slot becomes DONE and goes from the acceptance order to the tail of the completion order (R44). -/
def State.finish (s : State) (i : SlotNo) (r : Record) : State :=
  { s with
    slots := s.slots.set i (.done r)
    acceptance := s.acceptance.filter fun j => j != i
    completion := s.completion ++ [i] }

/-- The EXT grant released if the slot holds it (R78). -/
def State.releaseGrant (s : State) (i : SlotNo) : State :=
  { s with grant := if s.grant = some i then none else s.grant }

/-- The actuator's ACTIVE_SLOT becomes absent (R4). -/
def State.unlink (s : State) (a : ActNo) : State := s.setAct a { s.act a with activeSlot := none }

/-- The ending of the order in a slot (R44). A slot that is FREE or DONE has no order to end. The legs re-evaluate
after the step's endings (`settle`). -/
def State.endOrder (e : Ending) (i : SlotNo) (s : State) : State :=
  match s.slot i with
  | .queued o => s.finish i (s.recordOf o e)
  | .waiting o _ => s.finish i (s.recordOf o e)
  | .active o m => (((s.finish i (s.recordOfMove o m e)).dropClaims i).unlink o.actuator).releaseGrant i
  | .free => s
  | .done _ => s

/-- Several orders end in one step with one outcome, in the order of the list (R43: the acceptance order). -/
def State.endOrders (e : Ending) (is : List SlotNo) (s : State) : State := is.foldl (fun t i => t.endOrder e i) s

/-- The slots of the acceptance order that hold what `p` selects, oldest first. -/
def State.accepted (s : State) (p : SlotState → Bool) : List SlotNo := s.acceptance.filter fun i => p (s.slot i)

/-! ### SUBMIT (R54 to R58) -/

/-- The kind a staging byte names (R47). -/
def kindOf (b : Byte) : Option Kind :=
  match b.toNat with
  | 1 => some .moveTo
  | 2 => some .moveBy
  | 3 => some .seekEnd
  | 4 => some .fence
  | _ => none

/-- The lowest-numbered FREE slot (R57). -/
def State.freeSlot (s : State) : Option SlotNo := (List.finRange 16).find? fun i => (s.slot i).isFree

/-- The actuator that staging ACT names, if it is one of A0 to A7. -/
def actOf (b : Byte) : Option ActNo := if h : b.toNat < 8 then some ⟨b.toNat, h⟩ else none

/-- The speed class that staging SPEED names, if it is one of SC0 to SC3. -/
def classOf (b : Byte) : Option ClassNo := if h : b.toNat < 4 then some ⟨b.toNat, h⟩ else none

/-- Bit 0 of staging FLAGS, EXT (R46). -/
def Staging.ext (g : Staging) : Bool := g.flags.getLsbD 0

/-- Bit 1 of staging FLAGS, NOTIFY (R46). -/
def Staging.notify (g : Staging) : Bool := g.flags.getLsbD 1

/-- The order record filled from staging, with PASS 0 and the order's number (R46); a FENCE takes actuator 0. -/
def Staging.order (g : Staging) (k : Kind) (a : ActNo) (c : ClassNo) (n : Nat) : Order :=
  { kind := k, actuator := if k = .fence then 0 else a, arg := g.arg, speed := c, timeout := g.timeout, ext := g.ext,
    notify := g.notify, tag := g.tag, pass := 0, serial := n }

/-- Staging ACT names an actuator with ENABLE 1 (R56). -/
def State.stagedEnabled (s : State) : Bool :=
  match actOf s.staging.act with
  | some a => (s.act a).config.enabled
  | none => false

/-- MOVE_TO's target lies below MIN or above MAX of the entry (R56). -/
def outOfRange (c : ActConfig) (target : Int) : Bool := target < c.min.toInt || c.max.toInt < target

/-- The checks of R54 in their order: the first that fails gives the refusal, and with none failing the slot and the
order record of the acceptance. -/
def State.checkSubmit (s : State) : Except SubmitResult (SlotNo × Order) :=
  match s.freeSlot with
  | none => .error .full
  | some i =>
    match kindOf s.staging.kind with
    | none => .error .badKind
    | some k =>
      if k ≠ .fence ∧ s.stagedEnabled = false then .error .noActuator
      else
        match classOf s.staging.speed with
        | none => .error .badSpeed
        | some c =>
          let a := (actOf s.staging.act).getD 0
          if k = .seekEnd ∧ s.staging.arg ≠ 0 ∧ s.staging.arg ≠ 1 then .error .badArg
          else if k = .fence ∧ s.staging.ext then .error .badFlags
          else if k = .moveTo ∧ outOfRange (s.act a).config s.staging.arg.toInt then .error .range
          else .ok (i, s.staging.order k a c s.serial)

/-- The acceptance of an order into a slot (R57), before the pass that follows it; the next order gets the next
number. -/
def State.accept (i : SlotNo) (o : Order) (s : State) : State :=
  { s with
    slots := s.slots.set i (.queued o)
    acceptance := s.acceptance ++ [i]
    submitResult := .accepted
    assignedSlot := some i
    serial := s.serial + 1 }

/-- A refused SUBMIT (R58). -/
def State.refuseSubmit (r : SubmitResult) (s : State) : State := { s with submitResult := r, assignedSlot := none }

end Sys2Proof.Machine
end

