-- ==== Sys2Proof/Machine/Motion.lean ====
section
/-! DEFINITION. The motion tracker's operations on one move (chapter 5): duty, drive periods, targets, braking, holding and suspending. The timer expiries of a move are in Timers.lean. -/

namespace Sys2Proof.Machine

/-! ### Duty (R94) -/

/-- The phase duty (R94); outside the driving phases the current duty keeps its last value. -/
def Move.phaseDuty (m : Move) : Byte :=
  match m.phase with
  | .starting => m.rampLevel
  | .running => m.snapshot.run
  | .approaching => m.snapshot.approach
  | .braking | .held | .suspended => m.duty

/-- The WARM cap on a phase duty: the lesser of the two while the thermal state is WARM (R94). -/
def State.capped (s : State) (d : Byte) : Byte :=
  if s.thermal = .warm ∧ s.settings.warmCap < d then s.settings.warmCap else d

/-- The current duty set anew from the phase duty; a move holding the EXT grant is not capped, and outside the driving
phases no duty is set (R94). -/
def State.setDuty (s : State) (m : Move) : Move :=
  if m.phase.driving then
    { m with duty := if m.extHeld then m.phaseDuty else s.capped m.phaseDuty }
  else m

/-- The current duty of every driving move set anew (R94). -/
def State.recap (s : State) : State := s.onMoves fun _ m => s.setDuty m

/-! ### Targets -/

/-- POSITION is at or past the resolved target in the move's direction (R89, R97); a SEEK_END has no target. -/
def Move.reached (m : Move) (position : Int) : Bool :=
  match m.target with
  | none => false
  | some t =>
    match m.dir with
    | .opening => t ≤ position
    | .closing => position ≤ t

/-- The distance from POSITION to the resolved target is APPROACH or less (R93). -/
def Move.inZone (m : Move) (approach : Byte) (position : Int) : Bool :=
  match m.target with
  | none => false
  | some t => (t - position).natAbs ≤ approach.toNat

/-- The approach zone is entered (R93), before the current duty is set anew. -/
def Move.approachNow (m : Move) : Move := { m with phase := .approaching, rampTimer := none }

/-! ### Timers that start more than once (R87) -/

/-- The window starts or restarts (R98). -/
def Move.startWindow (length : Ticks) (m : Move) : Move :=
  { m with window := some length, windowRun := m.windowRun + 1 }

/-- The ramp timer starts (R91), with the length of the ramp interval setting (R92). -/
def State.startRamp (s : State) (m : Move) : Move :=
  { m with rampTimer := some (tenMs s.settings.ramp.toNat), rampRun := m.rampRun + 1 }

/-! ### Drive periods (R88 to R90) -/

/-- Steps 1 and 2 of R88: the start window, and the ramp or at once the run duty. -/
def State.rampFrom (s : State) (o : Order) (m : Move) : Move :=
  let m1 := { m with firstSeen := false }.startWindow (tenMs (s.config o).startWin.toNat)
  if m.snapshot.run ≤ m.snapshot.start then
    { m1 with phase := .running, rampLevel := m.snapshot.run, rampTimer := none }
  else
    s.startRamp { m1 with phase := .starting, rampLevel := m.snapshot.start }

/-- A drive period begins: R90 for a move holding the EXT grant, R88 for any other. -/
def State.enterDrive (s : State) (o : Order) (m : Move) : Move :=
  if m.extHeld then
    s.setDuty ({ m with firstSeen := false, phase := .running, rampTimer := none }.startWindow
      (tenMs (s.config o).startWin.toNat))
  else
    let m1 := s.rampFrom o m
    s.setDuty (if m1.inZone (s.config o).approach (s.position o) then m1.approachNow else m1)

/-! ### Braking, holding, suspending (R103, R113, R117, R121) -/

/-- An outcome is decided and the move enters BRAKING (R103). The timeout keeps its remaining value and no longer
counts. -/
def State.brake (s : State) (e : Ending) (m : Move) : Move :=
  { m with
    outcome := some e, phase := .braking, window := none, rampTimer := none
    brakeTimer := some (tenMs s.settings.brake.toNat) }

/-- A driving move enters HELD (R113). -/
def Move.hold (m : Move) : Move := { m with phase := .held, window := none, rampTimer := none }

/-- The suspend limit timer of a move that becomes SUSPENDED now: none while the setting is 0 (R123). -/
def State.suspendStart (s : State) : Option Ticks :=
  if s.settings.suspend = 0 then none else some (hundredMs s.settings.suspend.toNat)

/-- A driving or HELD move becomes SUSPENDED; hold-pending is set for a HELD one (R117). -/
def State.suspend (s : State) (m : Move) : Move :=
  { m with
    phase := .suspended, holdPending := m.phase == .held, window := none, rampTimer := none
    suspendTimer := s.suspendStart, suspendRun := m.suspendRun + 1 }

/-- A move returns to driving: BRAKING with DONE if its target is reached or passed, else a new drive period (R89). -/
def State.reenter (s : State) (o : Order) (m : Move) : Move :=
  if m.reached (s.position o) then s.brake .done m else s.enterDrive o m

/-- A SUSPENDED move resumes: HELD if hold-pending is set, else it returns to driving (R121). -/
def State.resumeMove (s : State) (o : Order) (m : Move) : Move :=
  let m1 := { m with suspendTimer := none }
  if m.holdPending then { m1 with phase := .held, holdPending := false } else s.reenter o m1

/-- The timeout expires: outcome TIMEOUT and BRAKING, with the driving time at TIMEOUT x 100 ms (R101). -/
def State.timeOut (s : State) (o : Order) (m : Move) : Move :=
  { s.brake .timeout m with timeoutLeft := some 0, driveTicks := hundredMs o.timeout.toNat }

/-- A move that re-entered a driving phase in this step with no timeout left times out in the same step (R115). `was`
is the phase it re-entered from. -/
def State.expireReentered (s before : State) (was : Phase) : State :=
  s.mapSlots fun i x =>
    if (before.slot i).inPhase (· == was) then
      x.mapMove fun o m => if m.phase.driving ∧ m.timeoutLeft = some 0 then s.timeOut o m else m
    else x

/-- The slots that hold an active move in phase `p` return to driving by `f` (R114, R121): the drive periods begin
and the legs re-evaluate, then the timeouts with no time left expire and the legs re-evaluate again (R115). -/
def State.returnToDrive (p : Phase) (f : Order → Move → Move) (s : State) : State :=
  let t := (s.onMoves fun o m => if m.phase = p then f o m else m).settle
  (t.expireReentered s p).settle

/-! ### Deciding and ending several orders (R127, R130) -/

/-- The driving moves among the slots enter BRAKING with the outcome (R103). -/
def State.brakeMoves (e : Ending) (is : List SlotNo) (s : State) : State :=
  is.foldl (fun t i => t.onMove i fun _ m => if m.phase.driving then t.brake e m else m) s

/-- A STOP or a cancel sends a driving move to BRAKING (R127, R130). -/
def SlotState.drives (x : SlotState) : Bool := x.inPhase Phase.driving

/-- A STOP or a cancel ends the order at once: QUEUED, HELD, SUSPENDED, or a waiting fence (R127, R130). -/
def SlotState.endsAtOnce : SlotState → Bool
  | .queued _ | .waiting _ _ => true
  | .active _ m => m.phase == .held || m.phase == .suspended
  | .free | .done _ => false

/-- The selected slots are handled by their phase, as STOP and the cancels give it: driving moves enter BRAKING with
the outcome, BRAKING moves stay, and the other orders end at once in acceptance order (R127, R130). -/
def State.withdraw (e : Ending) (is : List SlotNo) (s : State) : State :=
  ((s.brakeMoves e (is.filter fun i => (s.slot i).drives)).endOrders e
    (is.filter fun i => (s.slot i).endsAtOnce)).settle

/-- How many of the selected orders a STOP or a cancel decides or ends (R127, R130). -/
def State.countWithdrawn (is : List SlotNo) (s : State) : Nat :=
  is.countP fun i => (s.slot i).drives || (s.slot i).endsAtOnce

end Sys2Proof.Machine
end

