-- ==== Sys2Proof/Machine/Walk.lean ====
section
/-! DEFINITION. The dispatcher (chapter 4): the walk of a dispatch pass, the tests of an order, the start, and the series of passes. -/

namespace Sys2Proof.Machine

/-! ### Considering an order (R73, R74) -/

/-- The slots older than a slot: those before it in the acceptance order (R42). -/
def State.older (s : State) (i : SlotNo) : List SlotNo := s.acceptance.takeWhile fun j => j != i

/-- Two actuators share a leg (R73). -/
def sharesLeg (a b : ActConfig) : Bool :=
  a.posLeg == b.posLeg || a.posLeg == b.negLeg || a.negLeg == b.posLeg || a.negLeg == b.negLeg

/-- The slot holds a QUEUED order for the actuator. -/
def SlotState.queuedFor (a : ActNo) (x : SlotState) : Bool := x.isQueued && x.ordersFor a

/-- The slot holds a pressing order whose actuator shares a leg with the configuration (R73, R82). -/
def State.pressesOn (s : State) (c : ActConfig) (j : SlotNo) : Bool :=
  (s.slot j).pressing s.settings.passLimit &&
    match (s.slot j).order with
    | some o => sharesLeg (s.config o) c
    | none => false

/-- The three conditions under which a QUEUED move order is considered (R73). -/
def State.considered (s : State) (i : SlotNo) (o : Order) : Bool :=
  (s.older i).all (fun j => !(s.slot j).queuedFor o.actuator) &&
    (s.act o.actuator).activeSlot.isNone &&
    (s.older i).all fun j => !s.pressesOn (s.config o) j

/-- The resolved target, without wrap-around (R74). -/
def State.target (s : State) (o : Order) : Option Int :=
  match o.kind with
  | .moveTo => some o.arg.toInt
  | .moveBy => some (s.position o + o.arg.toInt)
  | .seekEnd | .fence => none

/-- The direction: towards the target, or as ARG says for a SEEK_END (R74). -/
def State.direction (s : State) (o : Order) : Dir :=
  match s.target o with
  | some t => if s.position o < t then .opening else .closing
  | none => if o.arg = 1 then .opening else .closing

/-- The leg that carries the DRIVE claim (R22). -/
def driveLeg (c : ActConfig) : Dir → LegField
  | .opening => c.posLeg
  | .closing => c.negLeg

/-- The leg that carries the RETURN claim (R22). -/
def returnLeg (c : ActConfig) : Dir → LegField
  | .opening => c.negLeg
  | .closing => c.posLeg

/-! ### Start-time endings (R75) -/

/-- The first of the checks of R75 that applies to a considered order, if one does. -/
def State.startEnding (s : State) (o : Order) : Option Ending :=
  if s.offAt (s.config o).posLeg || s.offAt (s.config o).negLeg then some .legOff
  else
    match s.target o with
    | none => none
    | some t =>
      if (s.act o.actuator).valid = false then some .noReference
      else if o.kind = .moveBy ∧ outOfRange (s.config o) t then some .range
      else if t = s.position o then some .done
      else none

/-! ### Compatibility (R76 to R78) -/

/-- The state with the candidate's two claims added (R22). -/
def State.withClaims (s : State) (i : SlotNo) (o : Order) : State :=
  (s.addClaim (driveLeg (s.config o) (s.direction o)) ⟨i, .drive⟩).addClaim
    (returnLeg (s.config o) (s.direction o)) ⟨i, .ret⟩

/-- The leg test (R76). -/
def State.legTest (s : State) (o : Order) : Bool :=
  !s.claimedAt (driveLeg (s.config o) (s.direction o)) && !s.drivenAt (returnLeg (s.config o) (s.direction o))

/-- A bystander: an enabled actuator without an active move (R77). -/
def Actuator.bystander (e : Actuator) : Bool := e.config.enabled && e.activeSlot.isNone

/-- The bystander rule: with the candidate's claims added, no bystander but the candidate's own actuator would be
driven (R77). -/
def State.bystanderTest (s : State) (i : SlotNo) (o : Order) : Bool :=
  (List.finRange 8).all fun b =>
    b == o.actuator || !(s.act b).bystander || !(s.withClaims i o).drivenAcross (s.act b).config

/-- The EXT test (R78). -/
def State.extTest (s : State) (o : Order) : Bool := !o.ext || s.grant.isNone

/-- Every compatibility test passes. -/
def State.compatible (s : State) (i : SlotNo) (o : Order) : Bool :=
  s.legTest o && s.bystanderTest i o && s.extTest o

/-! ### The start (R79, R80) -/

/-- The move record at the start, before the drive period begins (R49). -/
def State.newMove (s : State) (o : Order) : Move where
  dir := s.direction o
  target := s.target o
  snapshot := s.speeds[o.speed]
  phase := .starting
  rampLevel := s.speeds[o.speed].start
  duty := s.speeds[o.speed].start
  outcome := none
  driven := 0
  coast := 0
  driveTicks := 0
  firstSeen := false
  timeoutLeft := if o.timeout = 0 then none else some (hundredMs o.timeout.toNat)
  extHeld := o.ext
  holdPending := false
  rampTimer := none
  window := none
  brakeTimer := none
  suspendTimer := none
  rampRun := 0
  windowRun := 0
  suspendRun := 0

/-- A PASS count raised by 1, holding at 15 (R80). -/
def raisePass (p : BitVec 4) : BitVec 4 := if p = 15 then 15 else p + 1

/-- The PASS count of a QUEUED move order raised (R80); a fence's is not. -/
def SlotState.raise : SlotState → SlotState
  | .queued o => if o.kind = .fence then .queued o else .queued { o with pass := raisePass o.pass }
  | .free => .free
  | .active o m => .active o m
  | .waiting o n => .waiting o n
  | .done r => .done r

/-- The start raises the PASS counts of the older QUEUED move orders, and sets PRESSING if one of them becomes
pressing (R80, R81). -/
def State.raiseOlder (s : State) (i : SlotNo) : State :=
  let t := s.mapSlots fun j x => if (s.older i).contains j then x.raise else x
  t.setFlagIf (newlyPressing s t) .pressing

/-- The EXT grant taken by the slot of an order that asks for it (R78). -/
def State.takeGrant (i : SlotNo) (o : Order) (s : State) : State :=
  { s with grant := if o.ext then some i else s.grant }

/-- The actuator's ACTIVE_SLOT set (R4). -/
def State.link (i : SlotNo) (a : ActNo) (s : State) : State := s.setAct a { s.act a with activeSlot := some i }

/-- The start of a considered order that passed every test (R79): claims, grant, move record and drive period,
ACTIVE_SLOT, PASS counts; the legs then re-evaluate. -/
def State.startMove (i : SlotNo) (o : Order) (s : State) : State :=
  ((((((s.withClaims i o).takeGrant i o).setSlot i (.active o (s.enterDrive o (s.newMove o)))).link i
    o.actuator).raiseOlder i)).settle

/-! ### The walk (R71, R72) -/

/-- The walk reaches a QUEUED move order: it stays, ends at start or starts (R71). -/
def State.reachMove (i : SlotNo) (o : Order) (s : State) : State :=
  if s.considered i o then
    match s.startEnding o with
    | some e => s.endOrder e i
    | none => if s.compatible i o then s.startMove i o else s
  else s

/-- The delay of a fence (R47). -/
def Order.delay (o : Order) : Ticks := tenMs o.arg.toNat

/-- The walk reaches a QUEUED FENCE (R72). -/
def State.reachFence (i : SlotNo) (o : Order) (s : State) : State :=
  if (s.older i).any fun j => (s.slot j).isQueued || (s.slot j).isActive then s
  else if o.arg = 0 then s.endOrder .done i
  else s.setSlot i (.waiting o o.delay)

/-- The walk over the slots of the acceptance order, head first; it stops at a fence (R71). -/
def State.walk : List SlotNo → State → State
  | [], s => s
  | i :: rest, s =>
    match s.slot i with
    | .waiting _ _ => s
    | .queued o => if o.kind = .fence then s.reachFence i o else State.walk rest (s.reachMove i o)
    | .free | .active _ _ | .done _ => State.walk rest s

/-! ### Passes (R68 to R70) -/

/-- A pass does nothing: STOPPED, hold asserted, supply not IN, or SHUTDOWN or COOLED (R70). -/
def State.blocked (s : State) : Bool :=
  !s.running || s.holdOn || s.supply != .inRange || s.thermal == .shutdown || s.thermal == .cooled

/-- One dispatch pass (R70, R71). -/
def State.pass (s : State) : State := if s.blocked then s else s.walk s.acceptance

/-- A series of passes: a pass that ended an order is followed by one further pass (R68). An ending joins the
completion order, so its length tells. -/
def State.passes : Nat → State → State
  | 0, s => s
  | n + 1, s =>
    if s.completion.length < s.pass.completion.length then State.passes n s.pass else s.pass

/-- The dispatch pass that an event causes, with its further passes; at most seventeen (R68). -/
def State.dispatch (s : State) : State := s.passes 17

/-- The pass that follows a step in which at least one order ended: `before` is the state before the step (R44). -/
def State.dispatchIfEnded (s before : State) : State :=
  if before.completion.length < s.completion.length then s.dispatch else s

end Sys2Proof.Machine
end

