-- ==== Sys2Proof/Machine/Actuators.lean ====
section
/-! DEFINITION. The actuator table's steps (chapter 1): APPLY, ACT_SEL, SET_POSITION's effect, and RIPPLE_PULSE. -/

namespace Sys2Proof.Machine

/-! ### APPLY (R7 to R12) -/

/-- The BUSY check: a QUEUED or ACTIVE move order for the entry (R8). -/
def State.busyEntry (s : State) (a : ActNo) : Bool :=
  (List.finRange 16).any fun i => (s.slot i).ordersFor a

/-- The BAD_ARG check (R9). -/
def ActConfig.badArg (c : ActConfig) : Bool :=
  c.startWin == 0 || c.stallWin == 0 || decide (c.max.toInt < c.min.toInt) || (c.enable != 0 && c.enable != 1) ||
    decide (6 < c.posLeg) || decide (6 < c.negLeg) ||
    (c.enabled && (c.posLeg == 0 || c.negLeg == 0)) || (c.enabled && c.posLeg == c.negLeg)

/-- Two configurations have the same pair of legs, in either order (R10). -/
def samePair (c d : ActConfig) : Bool :=
  (c.posLeg == d.posLeg && c.negLeg == d.negLeg) || (c.posLeg == d.negLeg && c.negLeg == d.posLeg)

/-- The PAIR_USED check (R10). -/
def State.pairUsed (s : State) (a : ActNo) (c : ActConfig) : Bool :=
  c.enabled && (List.finRange 8).any fun b => b != a && (s.act b).config.enabled && samePair (s.act b).config c

/-- The CONFLICT check (R11). -/
def State.conflict (s : State) (c : ActConfig) : Bool := c.enabled && s.drivenAcross c

/-- The checks of R7 in their order. -/
def State.checkApply (s : State) : ApplyResult :=
  if s.busyEntry s.actSel then .busy
  else if s.page.badArg then .badArg
  else if s.pairUsed s.actSel s.page then .pairUsed
  else if s.conflict s.page then .conflict
  else .ok

/-- The legs or ENABLE differ (R12). -/
def rewired (old new : ActConfig) : Bool :=
  old.posLeg != new.posLeg || old.negLeg != new.negLeg || old.enable != new.enable

/-- An accepted APPLY copies the page into the entry (R12). -/
def Actuator.applyPage (e : Actuator) (c : ActConfig) : Actuator :=
  if rewired e.config c then { e with config := c, valid := false, stray := 0 } else { e with config := c }

/-- An APPLY request (R7), with the dispatch pass of an accepted one (R12). -/
def State.applyRequest (s : State) : State :=
  let r := s.checkApply
  let t := { s with applyResult := r }
  if r = .ok then (t.setAct s.actSel ((s.act s.actSel).applyPage s.page)).dispatch else t

/-! ### ACT_SEL (R5) -/

/-- A write to ACT_SEL: 0 to 7 selects the entry and loads the page, above 7 is discarded (R5). -/
def State.writeActSel (v : Byte) (s : State) : State :=
  match actOf v with
  | some a => { s with actSel := a, page := (s.act a).config }
  | none => s

/-! ### RIPPLE_PULSE (R13 to R16) -/

/-- POSITION one count in the direction, held at the end of the range (R14, R16). -/
def stepPosition (d : Dir) (p : Half) : Half :=
  match d with
  | .opening => if p = 0x7FFF then p else p + 1
  | .closing => if p = 0x8000 then p else p - 1

/-- The pulse would carry POSITION out of the range (R16). -/
def saturates (d : Dir) (p : Half) : Bool :=
  match d with
  | .opening => p == 0x7FFF
  | .closing => p == 0x8000

/-- The entry's part of a driven or coast pulse: POSITION moves, and a saturation makes it UNKNOWN (R14, R16). -/
def Actuator.count (d : Dir) (e : Actuator) : Actuator :=
  { e with position := stepPosition d e.position, valid := e.valid && !saturates d e.position }

/-- A count raised by 1, holding at 255 (R14, R15). -/
def raiseByte (b : Byte) : Byte := if b = 255 then 255 else b + 1

/-- A count raised by 1, holding at 65535 (R14). -/
def raiseHalf (h : Half) : Half := if h = 0xFFFF then 0xFFFF else h + 1

/-- The tracker's part of a driven pulse, after POSITION has moved (R96): the count, the stall window, the target, the
approach zone. -/
def State.drivenPulse (s : State) (o : Order) (m : Move) : Move :=
  let m1 := { m with driven := raiseHalf m.driven, firstSeen := true }.startWindow (tenMs (s.config o).stallWin.toNat)
  if m1.reached (s.position o) then s.brake .done m1
  else if m.extHeld = false ∧ (m.phase = .starting ∨ m.phase = .running) ∧
      m1.inZone (s.config o).approach (s.position o) then
    s.setDuty m1.approachNow
  else m1

/-- The tracker's part of a coast pulse (R14, R104). -/
def Move.coastPulse (m : Move) : Move := { m with coast := raiseByte m.coast }

/-- The entry's part of a stray pulse (R15). -/
def Actuator.strayPulse (e : Actuator) : Actuator :=
  let n := raiseByte e.stray
  { e with stray := n, valid := e.valid && !(e.config.strayLimit != 0 && decide (e.config.strayLimit ≤ n)) }

/-- A stray pulse makes a VALID position UNKNOWN: this sets POSITION_LOST (R15). -/
def Actuator.losesByStray (e : Actuator) : Bool := e.valid && !e.strayPulse.valid

/-- A pulse of an actuator whose move `m` is in slot `i` (R13, R14). -/
def State.movePulse (a : ActNo) (i : SlotNo) (m : Move) (s : State) : State :=
  if m.outcome = some .endFound ∧ m.phase = .braking then s
  else
    let t := (s.setAct a ((s.act a).count m.dir)).setFlagIf (saturates m.dir (s.act a).position) .positionLost
    if m.phase.driving then (t.onMove i t.drivenPulse).settle else t.onMove i fun _ n => n.coastPulse

/-- RIPPLE_PULSE: the table of R13. -/
def State.ripplePulse (a : ActNo) (s : State) : State :=
  if (s.act a).config.enabled then
    match (s.act a).activeSlot with
    | none => (s.setAct a (s.act a).strayPulse).setFlagIf (s.act a).losesByStray .positionLost
    | some i =>
      match (s.slot i).move with
      | some m => s.movePulse a i m
      | none => s
  else s

/-- RIPPLE_PULSE (R13). -/
def execRipplePulse (a : ActNo) (s : State) : Host.Outcome State Fault Refusal := whenLive (State.ripplePulse a) s

end Sys2Proof.Machine
end

