-- ==== Sys2Proof/Machine/Timers.lean ====
section
/-! DEFINITION. The expiries of an order's timers (R87): ramp, window, timeout, brake timer, fence delay, suspend limit. An expiry is taken at its order's slot while the timer runs; one that finds its order ended, its timer not running, or another run of its timer is dropped (R44, R87, R102, R121, log 7). -/

namespace Sys2Proof.Machine

/-- The ramp level after a ramp expiry, held at the run duty (R91). -/
def Move.rampUp (m : Move) : Byte :=
  if m.snapshot.run.toNat ≤ m.rampLevel.toNat + m.snapshot.step.toNat then m.snapshot.run
  else m.rampLevel + m.snapshot.step

/-- The ramp timer of a move in STARTING expires (R91). -/
def State.ramp (s : State) (m : Move) : Move :=
  s.setDuty <|
    if m.rampUp = m.snapshot.run then { m with rampLevel := m.rampUp, phase := .running, rampTimer := none }
    else s.startRamp { m with rampLevel := m.rampUp }

/-- RAMP_EXPIRY: in STARTING only, and not for a move holding the EXT grant (R87, R91). -/
def State.rampExpiry (i : SlotNo) (s : State) : State :=
  (s.onMove i fun _ m => if m.phase = .starting ∧ m.extHeld = false then s.ramp m else m).settle

/-- The end value of a SEEK_END: OPEN_END for ARG 1, CLOSE_END for ARG 0 (R19). -/
def ActConfig.endValue (c : ActConfig) (o : Order) : Half := if o.arg = 1 then c.openEnd else c.closeEnd

/-- The recalibration of an entry by a SEEK_END that finds its end stop (R19). -/
def Actuator.recalibrate (e : Actuator) (o : Order) : Actuator :=
  { e with position := e.config.endValue o, valid := true, stray := 0 }

/-- WINDOW_EXPIRY in a driving phase: END_FOUND for a SEEK_END (R99), STALLED for a MOVE_TO or MOVE_BY (R100). -/
def State.windowExpiry (i : SlotNo) (s : State) : State :=
  match s.slot i with
  | .active o m =>
    if m.phase.driving then
      if o.kind = .seekEnd then
        ((s.setAct o.actuator ((s.act o.actuator).recalibrate o)).setSlot i (.active o (s.brake .endFound m))).settle
      else (s.setSlot i (.active o (s.brake .stalled m))).settle
    else s
  | .free | .queued _ | .waiting _ _ | .done _ => s

/-- TIMEOUT_EXPIRY in a driving phase of a move with a timeout (R101). -/
def State.timeoutExpiry (i : SlotNo) (s : State) : State :=
  (s.onMove i fun o m => if m.phase.driving ∧ m.timeoutLeft.isSome then s.timeOut o m else m).settle

/-- A move in BRAKING ends with its decided outcome (R105, R132). -/
def State.endBraked (i : SlotNo) (s : State) : State :=
  match (s.slot i).move with
  | some m =>
    if m.phase = .braking then
      match m.outcome with
      | some e => s.endOrder e i
      | none => s
    else s
  | none => s

/-- BRAKE_TIMER_EXPIRY (R105), with the dispatch pass of the ending. -/
def State.brakeTimerExpiry (i : SlotNo) (s : State) : State := ((s.endBraked i).settle).dispatchIfEnded s

/-- FENCE_DELAY_EXPIRY of a fence in WAITING (R108), with the dispatch pass of the ending. -/
def State.fenceDelayExpiry (i : SlotNo) (s : State) : State :=
  match s.slot i with
  | .waiting _ _ => ((s.endOrder .done i).settle).dispatch
  | .free | .queued _ | .active _ _ | .done _ => s

/-- SUSPEND_LIMIT_EXPIRY of a SUSPENDED move whose limit runs (R123), with the dispatch pass of the ending. -/
def State.suspendLimitExpiry (i : SlotNo) (s : State) : State :=
  match (s.slot i).move with
  | some m =>
    if m.phase = .suspended ∧ m.suspendTimer.isSome then ((s.endOrder .supply i).settle).dispatch else s
  | none => s

/-- RAMP_EXPIRY (R91). -/
def execRampExpiry (r : TimerRef) (s : State) : Host.Outcome State Fault Refusal :=
  whenLive (State.forTimer Move.rampRun r State.rampExpiry) s

/-- WINDOW_EXPIRY (R98). -/
def execWindowExpiry (r : TimerRef) (s : State) : Host.Outcome State Fault Refusal :=
  whenLive (State.forTimer Move.windowRun r State.windowExpiry) s

/-- TIMEOUT_EXPIRY (R101). -/
def execTimeoutExpiry (r : OrderRef) (s : State) : Host.Outcome State Fault Refusal :=
  whenLive (State.forOrder r State.timeoutExpiry) s

/-- BRAKE_TIMER_EXPIRY (R105). -/
def execBrakeTimerExpiry (r : OrderRef) (s : State) : Host.Outcome State Fault Refusal :=
  whenLive (State.forOrder r State.brakeTimerExpiry) s

/-- FENCE_DELAY_EXPIRY (R108). -/
def execFenceDelayExpiry (r : OrderRef) (s : State) : Host.Outcome State Fault Refusal :=
  whenLive (State.forOrder r State.fenceDelayExpiry) s

/-- SUSPEND_LIMIT_EXPIRY (R123). -/
def execSuspendLimitExpiry (r : TimerRef) (s : State) : Host.Outcome State Fault Refusal :=
  whenLive (State.forTimer Move.suspendRun r State.suspendLimitExpiry) s

end Sys2Proof.Machine
end

