-- ==== Sys2Proof/Machine/Monitors.lean ====
section
/-! DEFINITION. The events of the monitors and the comparators: hold (R112 to R114), supply (R117 to R120, R144), thermal (R137 to R141), over-current (R32, R33). A monitor delivers an event only in the monitor state from which the manual says it comes (log 13). -/

namespace Sys2Proof.Machine

/-! ### Hold -/

/-- The response of a move to an assertion: driving moves become HELD, SUSPENDED ones get hold-pending (R112). -/
def Move.onHold (m : Move) : Move :=
  if m.phase.driving then m.hold else if m.phase = .suspended then { m with holdPending := true } else m

/-- HOLD_ASSERTED (R112); the two hold events alternate (R146). -/
def State.holdAsserted (s : State) : State :=
  if s.holdOn then s
  else ({ s with holdOn := true }.setFlag .holdOn |>.onMoves fun _ m => m.onHold).settle

/-- The hold-pending fields of SUSPENDED moves cleared (R114). -/
def Move.clearPending (m : Move) : Move := if m.phase = .suspended then { m with holdPending := false } else m

/-- HOLD_RELEASED (R114), with the dispatch pass; the two hold events alternate (R146). -/
def State.holdReleased (s : State) : State :=
  if s.holdOn then
    let t := ({ s with holdOn := false }.setFlag .holdOff).onMoves fun _ m => m.clearPending
    (t.returnToDrive .held t.reenter).dispatch
  else s

/-! ### Supply -/

/-- The response of a move to a supply out in IN, but for BRAKING (R117). -/
def State.onSupplyOut (s : State) (m : Move) : Move :=
  if m.phase.driving ∨ m.phase = .held then s.suspend m else m

/-- A supply out taken in state IN (R117): the moves in BRAKING end with their decided outcomes in acceptance order,
driving and HELD moves become SUSPENDED, and the legs re-evaluate. -/
def State.loseSupply (s : State) : State :=
  let braking := s.accepted fun x => x.inPhase (· == .braking)
  let t := { s with supply := .out }.onMoves fun _ m => s.onSupplyOut m
  ((braking.foldl (fun u i => u.endBraked i) t).settle).dispatchIfEnded s

/-- SUPPLY_OUT (R117, R118): delivered at a departure from inside the outer window (R144). -/
def State.supplyOut (s : State) : State :=
  if s.insideOuter then
    let t := { s with insideOuter := false, armed := true }.setFlag .supplyOut
    match s.supply with
    | .inRange => t.loseSupply
    | .out => t
    | .recovering _ => { t with supply := .out }
  else s

/-- The supply state takes a supply in-range event: in OUT a restart delay starts, a run of its own (R119, log 7). -/
def State.recover (s : State) : State :=
  match s.supply with
  | .out => { s with supply := .recovering (hundredMs s.settings.restart.toNat), restartRun := s.restartRun + 1 }
  | .inRange => s
  | .recovering _ => s

/-- SUPPLY_IN_RANGE (R119): delivered while the monitor is armed (R144). -/
def State.supplyInRange (s : State) : State :=
  if s.armed then { s with insideOuter := true, armed := false }.recover else s

/-- OUTER_WINDOW_REENTRY (R144): back inside the outer window but not the re-entry window; the monitor stays armed. -/
def State.outerWindowReentry (s : State) : State := { s with insideOuter := true }

/-- Every SUSPENDED move resumes (R121, R122). -/
def State.resumeAll (s : State) : State := s.returnToDrive .suspended s.resumeMove

/-- RESTART_DELAY_EXPIRY in RECOVERING (R120), with the dispatch pass. -/
def State.restartDelayExpiry (s : State) : State :=
  match s.supply with
  | .recovering _ =>
    let t := { s with supply := .inRange }.setFlag .supplyIn
    (if s.settings.autoResume then t.resumeAll else t).dispatch
  | .inRange => s
  | .out => s

/-! ### Thermal -/

/-- WARN_RISE: delivered while the warn comparator is clear (R135); in NORMAL the state becomes WARM (R138). -/
def State.warnRise (s : State) : State :=
  if s.warnSet then s
  else
    let t := { s with warnSet := true }
    if s.thermal = .normal then ({ t with thermal := .warm }.setFlag .thermalWarn).recap.settle else t

/-- WARN_FALL: delivered while the warn comparator is set (R135); in WARM the state becomes NORMAL (R138). -/
def State.warnFall (s : State) : State :=
  if s.warnSet then
    let t := { s with warnSet := false }
    if s.thermal = .warm then { t with thermal := .normal }.recap.settle else t
  else s

/-- SHUTDOWN_RISE: delivered while the shutdown comparator is clear (R135) and taken in WARM or COOLED (R137): every
active move ends with THERMAL, in acceptance order (R139). It is not taken in NORMAL (R137, log 12). -/
def State.shutdownRise (s : State) : State :=
  if s.shutdownSet = false ∧ (s.thermal = .warm ∨ s.thermal = .cooled) then
    let t := { s with shutdownSet := true, thermal := .shutdown }.setFlag .thermalShutdown
    ((t.endOrders .thermal (s.accepted fun x => x.move.isSome)).settle).dispatchIfEnded s
  else s

/-- SHUTDOWN_FALL: delivered while the shutdown comparator is set (R135); in SHUTDOWN the state becomes COOLED
(R141). -/
def State.shutdownFall (s : State) : State :=
  if s.shutdownSet then
    let t := { s with shutdownSet := false }
    if s.thermal = .shutdown then { t with thermal := .cooled }.setFlag .thermalCooled else t
  else s

/-! ### Over-current -/

/-- The leg latches OFF and loses every claim (R33, R34). -/
def State.latchOff (k : LegNo) (s : State) : State := s.setLeg k { (s.leg k).enter .off with claims := [] }

/-- OVER_CURRENT: taken on a conducting leg, dropped on any other (R32, R33); the dispatch pass follows. -/
def State.overCurrent (k : LegNo) (s : State) : State :=
  if (s.leg k).state.conducting then
    let owners := s.acceptance.filter fun i => (s.leg k).claimedBy i && (s.slot i).move.isSome
    ((((s.latchOff k).endOrders .overcurrent owners).settle).setFlag .legFault).dispatch
  else s

/-! ### The meanings -/

/-- HOLD_ASSERTED (R112). -/
def execHoldAsserted (s : State) : Host.Outcome State Fault Refusal := whenLive State.holdAsserted s

/-- HOLD_RELEASED (R114). -/
def execHoldReleased (s : State) : Host.Outcome State Fault Refusal := whenLive State.holdReleased s

/-- SUPPLY_OUT (R117). -/
def execSupplyOut (s : State) : Host.Outcome State Fault Refusal := whenLive State.supplyOut s

/-- SUPPLY_IN_RANGE (R119). -/
def execSupplyInRange (s : State) : Host.Outcome State Fault Refusal := whenLive State.supplyInRange s

/-- OUTER_WINDOW_REENTRY (R144). -/
def execOuterWindowReentry (s : State) : Host.Outcome State Fault Refusal := whenLive State.outerWindowReentry s

/-- RESTART_DELAY_EXPIRY (R120): the expiry of a delay that was abandoned is dropped, also while another runs (R118). -/
def execRestartDelayExpiry (s : State) (run : Nat := 1) : Host.Outcome State Fault Refusal :=
  whenLive (State.forRestart run State.restartDelayExpiry) s

/-- WARN_RISE (R138). -/
def execWarnRise (s : State) : Host.Outcome State Fault Refusal := whenLive State.warnRise s

/-- WARN_FALL (R138). -/
def execWarnFall (s : State) : Host.Outcome State Fault Refusal := whenLive State.warnFall s

/-- SHUTDOWN_RISE (R139). -/
def execShutdownRise (s : State) : Host.Outcome State Fault Refusal := whenLive State.shutdownRise s

/-- SHUTDOWN_FALL (R141). -/
def execShutdownFall (s : State) : Host.Outcome State Fault Refusal := whenLive State.shutdownFall s

/-- OVER_CURRENT (R33): a detection is lost once the leg has left the run in which it was made (R32, R149). -/
def execOverCurrent (r : LegRef) (s : State) : Host.Outcome State Fault Refusal :=
  whenLive (State.forLeg r State.overCurrent) s

end Sys2Proof.Machine
end

