-- ==== Sys2Proof/Machine/Operands.lean ====
section
/-! DEFINITION. Operand and display forms: the codes of states, kinds, outcomes and results, the command arguments, and the byte layouts of R174. -/

namespace Sys2Proof.Machine

/-! ### Codes -/

/-- Kind codes (R47). -/
def Kind.code : Kind → Byte
  | .moveTo => 1
  | .moveBy => 2
  | .seekEnd => 3
  | .fence => 4

/-- Outcome codes (R109). -/
def Ending.code : Ending → Byte
  | .done => 1
  | .endFound => 2
  | .stalled => 3
  | .timeout => 4
  | .cancelled => 5
  | .stopped => 6
  | .overcurrent => 7
  | .thermal => 8
  | .supply => 9
  | .range => 10
  | .noReference => 11
  | .legOff => 12

/-- Phase codes (R86); WAITING is 7. -/
def Phase.code : Phase → Byte
  | .starting => 1
  | .running => 2
  | .approaching => 3
  | .braking => 4
  | .held => 5
  | .suspended => 6

/-- Leg state codes (R21). -/
def LegState.code : LegState → Byte
  | .float => 0
  | .low => 1
  | .high => 2
  | .mod => 3
  | .ext => 4
  | .brk _ _ => 5
  | .off => 6

/-- APPLY result codes (R7). -/
def ApplyResult.code : ApplyResult → Byte
  | .none => 0
  | .ok => 1
  | .busy => 2
  | .badArg => 3
  | .pairUsed => 4
  | .conflict => 5

/-- SUBMIT result codes (R54). -/
def SubmitResult.code : SubmitResult → Byte
  | .none => 0
  | .accepted => 1
  | .full => 2
  | .badKind => 3
  | .noActuator => 4
  | .badSpeed => 5
  | .badArg => 6
  | .badFlags => 7
  | .range => 8

/-- Command result codes (R176). -/
def CmdResult.code : CmdResult → Byte
  | .none => 0
  | .ok => 1
  | .state => 2
  | .badArg => 3
  | .unknown => 4

/-- Thermal state codes (R136). -/
def Thermal.code : Thermal → Byte
  | .normal => 0
  | .warm => 1
  | .shutdown => 2
  | .cooled => 3

/-- Supply state codes of the global state byte (R174). -/
def Supply.code : Supply → Byte
  | .inRange => 0
  | .out => 1
  | .recovering _ => 2

/-- A slot number as a byte. -/
def slotByte (i : SlotNo) : Byte := BitVec.ofNat 8 i.val

/-- A slot number or FFh while there is none (R3, R58). -/
def slotOrNone : Option SlotNo → Byte
  | some i => slotByte i
  | none => 0xFF

/-- A bit at a place in a byte. -/
def bitAt (b : Bool) (n : Nat) : Byte := if b then 1#8 <<< n else 0

/-- A byte of two four-bit fields. -/
def nibbles (high low : BitVec 4) : Byte := high ++ low

/-! ### Command arguments (R176) -/

/-- The slot that COMMAND_ARG names, if it is one of S0 to S15 (R129). -/
def slotOf (b : Byte) : Option SlotNo := if h : b.toNat < 16 then some ⟨b.toNat, h⟩ else none

/-- The leg mask of CLEAR_LEG names the leg: bit 0 is L1 (R36). -/
def maskNames (mask : Byte) (k : LegNo) : Bool := mask.getLsbD k.val

/-! ### Byte layouts (R174) -/

/-- The slot that holds the leg's DRIVE claim (R22). -/
def Leg.driveOwner (l : Leg) : Option SlotNo := (l.claims.find? fun c => c.type == .drive).map Claim.slot

/-- The number of RETURN claims on the leg (R37). -/
def Leg.returnCount (l : Leg) : Nat := l.claims.countP fun c => c.type == .ret

/-- The leg status byte (R37, R174). -/
def Leg.statusByte (l : Leg) : Byte :=
  match l.driveOwner with
  | some i => (slotByte i <<< 4) ||| 0x08 ||| l.state.code
  | none => (BitVec.ofNat 8 l.returnCount <<< 4) ||| l.state.code

/-- The OFF mask at 16h (R37). -/
def State.offMask (s : State) : Byte :=
  (List.finRange 6).foldl (fun b k => b ||| bitAt ((s.leg k).state == .off) k.val) 0

/-- How many slots hold what `p` selects (R60). -/
def State.countSlots (s : State) (p : SlotState → Bool) : Nat := (List.finRange 16).countP fun i => p (s.slot i)

/-- Two counts in one byte; a count of 16 is shown as 15 (R60). -/
def countsByte (high low : Nat) : Byte := (BitVec.ofNat 8 (min 15 high) <<< 4) ||| BitVec.ofNat 8 (min 15 low)

/-- The kind and actuator byte at 32h and 3Ch (R150, R174). -/
def kindActByte (k : Kind) (a : ActNo) : Byte := (k.code <<< 4) ||| BitVec.ofNat 8 a.val

/-- The global state byte at 06h (R174, R175). -/
def State.globalByte (s : State) : Byte :=
  bitAt s.grant.isSome 6 ||| (s.thermal.code <<< 4) ||| (s.supply.code <<< 2) ||| bitAt s.holdOn 1 |||
    bitAt s.running 0

/-- The status byte, captured when SELN falls (R167). -/
def State.statusByte (s : State) : Byte :=
  bitAt s.attn 7 ||| bitAt ((List.finRange 6).any fun k => (s.leg k).state == .off) 6 |||
    bitAt (s.thermal != .normal) 5 ||| bitAt s.holdOn 4 ||| bitAt (s.supply != .inRange) 3 |||
    bitAt (s.countSlots SlotState.isFree == 0) 2 ||| bitAt (!s.completion.isEmpty) 1 ||| bitAt (s.flag .frameErr) 0

/-- The validity and stray byte at 52h: STRAY itself up to 127, and 127 above (R3, R174). -/
def Actuator.validityByte (e : Actuator) : Byte :=
  bitAt e.valid 7 ||| (if 127 < e.stray then 127 else e.stray)

/-- The slot state byte at 3Bh (R61, R174): the state code in bits 7 to 4, the phase code in bits 3 to 0. -/
def SlotState.stateByte : SlotState → Byte
  | .free => 0x00
  | .queued _ => 0x10
  | .active _ m => 0x20 ||| m.phase.code
  | .waiting _ _ => 0x27
  | .done _ => 0x30

/-- The kind and actuator byte of the slot status window at 3Ch (R61). -/
def SlotState.kindByte : SlotState → Byte
  | .free => 0
  | .queued o | .active o _ | .waiting o _ => kindActByte o.kind o.actuator
  | .done r => kindActByte r.kind r.actuator

/-- The tag byte at 3Dh (R61). -/
def SlotState.tagByte : SlotState → Byte
  | .free => 0
  | .queued o | .active o _ | .waiting o _ => o.tag
  | .done r => r.tag

/-- The duty byte at 3Eh: the current duty in a driving phase of a move that does not hold the EXT grant (R61). -/
def SlotState.dutyByte : SlotState → Byte
  | .active _ m => if m.phase.driving && !m.extHeld then m.duty else 0
  | .free | .queued _ | .waiting _ _ | .done _ => 0

/-- The layout of 3Fh: grant held in bit 5, the EXT flag in bit 4, PASS in bits 3 to 0 (R174). -/
def passByte (held ext : Bool) (pass : BitVec 4) : Byte := bitAt held 5 ||| bitAt ext 4 ||| pass.setWidth 8

/-- The PASS and EXT byte at 3Fh (R61). -/
def SlotState.passExtByte : SlotState → Byte
  | .free => 0
  | .queued o => passByte false o.ext o.pass
  | .active o m => passByte m.extHeld o.ext o.pass
  | .waiting o _ => passByte false o.ext o.pass
  | .done r => passByte false r.ext r.pass

/-- A byte of a completion record by its window address, 30h to 39h (R150). -/
def Record.byteAt (r : Record) (i : SlotNo) (a : Nat) : Byte :=
  match a with
  | 0x30 => slotByte i
  | 0x31 => r.tag
  | 0x32 => kindActByte r.kind r.actuator
  | 0x33 => r.outcome.code
  | 0x34 => lowByte r.position
  | 0x35 => highByte r.position
  | 0x36 => lowByte r.driven
  | 0x37 => highByte r.driven
  | 0x38 => r.coast
  | 0x39 => r.driving
  | _ => 0

end Sys2Proof.Machine
end

