-- ==== Sys2Proof/Machine/Registers.lean ====
section
/-! DEFINITION. The register window (chapter 9): what each address reads as when it is captured, and what a byte written to a stored field does. -/

namespace Sys2Proof.Machine

/-! ### Reading (R173, R174) -/

/-- A page or entry configuration byte by its address, 41h to 4Eh (R174). -/
def ActConfig.byteAt (c : ActConfig) (a : Nat) : Byte :=
  match a with
  | 0x41 => nibbles c.negLeg c.posLeg
  | 0x42 => c.enable
  | 0x43 => lowByte c.min
  | 0x44 => highByte c.min
  | 0x45 => lowByte c.max
  | 0x46 => highByte c.max
  | 0x47 => lowByte c.openEnd
  | 0x48 => highByte c.openEnd
  | 0x49 => lowByte c.closeEnd
  | 0x4A => highByte c.closeEnd
  | 0x4B => c.approach
  | 0x4C => c.startWin
  | 0x4D => c.stallWin
  | 0x4E => c.strayLimit
  | _ => 0

/-- A staging byte by its address, 20h to 27h (R53). -/
def Staging.byteAt (g : Staging) (a : Nat) : Byte :=
  match a with
  | 0x20 => g.kind
  | 0x21 => g.act
  | 0x22 => lowByte g.arg
  | 0x23 => highByte g.arg
  | 0x24 => g.speed
  | 0x25 => g.timeout
  | 0x26 => g.flags
  | 0x27 => g.tag
  | _ => 0

/-- A global setting by its address, 18h to 1Fh (R177). -/
def Settings.byteAt (g : Settings) (a : Nat) : Byte :=
  match a with
  | 0x18 => g.dead
  | 0x19 => g.brake
  | 0x1A => g.ramp
  | 0x1B => g.restart
  | 0x1C => g.suspend
  | 0x1D => g.passLimit
  | 0x1E => g.warmCap
  | 0x1F => bitAt g.autoResume 0
  | _ => 0

/-- A byte of a speed class: start, run, ramp step, approach (R178). -/
def SpeedClass.byteAt (c : SpeedClass) (n : Nat) : Byte :=
  match n with
  | 0 => c.start
  | 1 => c.run
  | 2 => c.step
  | 3 => c.approach
  | _ => 0

/-- The speed class whose bytes hold the address, 58h to 67h (R178). -/
def classAt (a : Nat) : ClassNo := Fin.ofNat 4 ((a - 0x58) / 4)

/-- The legs' addresses, 10h to 15h (R37). -/
def legAt (a : Nat) : LegNo := Fin.ofNat 6 (a - 0x10)

/-- The addresses 00h to 0Eh (R173). -/
def State.globalAt (s : State) (a : Nat) : Byte :=
  match a with
  | 0x00 => Config.partCode
  | 0x01 => Config.revision
  | 0x02 => lowByte s.eventFlags
  | 0x03 => highByte s.eventFlags
  | 0x04 => lowByte s.mask
  | 0x05 => highByte s.mask
  | 0x06 => s.globalByte
  | 0x08 => s.cmdArg
  | 0x09 => lowByte s.cmdValue
  | 0x0A => highByte s.cmdValue
  | 0x0B => s.cmdResult.code
  | 0x0C => s.cmdDetail
  | 0x0D => countsByte (s.countSlots SlotState.isFree) (s.countSlots SlotState.isQueued)
  | 0x0E => countsByte (s.countSlots SlotState.isActive) (s.countSlots SlotState.isDone)
  | _ => 0

/-- The slot status window, 3Bh to 3Fh (R61). -/
def SlotState.byteAt (x : SlotState) (a : Nat) : Byte :=
  match a with
  | 0x3B => x.stateByte
  | 0x3C => x.kindByte
  | 0x3D => x.tagByte
  | 0x3E => x.dutyByte
  | 0x3F => x.passExtByte
  | _ => 0

/-- The live fields of the selected actuator, 50h to 53h (R3). -/
def State.liveAt (s : State) (a : Nat) : Byte :=
  match a with
  | 0x50 => lowByte (s.act s.actSel).position
  | 0x51 => s.shadowPosition.getD (highByte (s.act s.actSel).position)
  | 0x52 => (s.act s.actSel).validityByte
  | 0x53 => slotOrNone (s.act s.actSel).activeSlot
  | _ => 0

/-- The record at the head of the completion order, with its slot (R150). -/
def State.head (s : State) : Option (SlotNo × Record) :=
  match s.completion with
  | [] => none
  | i :: _ =>
    match s.slot i with
    | .done r => some (i, r)
    | .free | .queued _ | .active _ _ | .waiting _ _ => none

/-- A completion window address, 30h to 39h (R150). -/
def inWindow (a : Nat) : Bool := decide (0x30 ≤ a) && decide (a ≤ 0x39)

/-- The completion window: 00h while the completion order is empty or the empty view is set (R152), else the head
record, with the shadows of 35h and 37h while their marks are valid (R172). -/
def State.windowAt (s : State) (a : Nat) : Byte :=
  if s.completion.isEmpty || s.emptyView then 0
  else
    match s.head with
    | none => 0
    | some (i, r) =>
      match a with
      | 0x35 => s.shadowFinal.getD (r.byteAt i 0x35)
      | 0x37 => s.shadowDriven.getD (r.byteAt i 0x37)
      | _ => r.byteAt i a

/-- What an address of the register window reads as when it is captured (R169, R173); an unassigned address, COMMAND
and SUBMIT read 00h (R170). -/
def State.peek (s : State) (addr : Addr) : Byte :=
  let a := addr.toNat
  if a ≤ 0x0E then s.globalAt a
  else if 0x10 ≤ a ∧ a ≤ 0x15 then (s.leg (legAt a)).statusByte
  else if a = 0x16 then s.offMask
  else if 0x18 ≤ a ∧ a ≤ 0x1F then s.settings.byteAt a
  else if 0x20 ≤ a ∧ a ≤ 0x27 then s.staging.byteAt a
  else if a = 0x29 then s.submitResult.code
  else if a = 0x2A then slotOrNone s.assignedSlot
  else if inWindow a then s.windowAt a
  else if a = 0x3A then slotByte s.slotSel
  else if 0x3B ≤ a ∧ a ≤ 0x3F then (s.slot s.slotSel).byteAt a
  else if a = 0x40 then BitVec.ofNat 8 s.actSel.val
  else if 0x41 ≤ a ∧ a ≤ 0x4E then s.page.byteAt a
  else if a = 0x4F then s.applyResult.code
  else if 0x50 ≤ a ∧ a ≤ 0x53 then s.liveAt a
  else if 0x58 ≤ a ∧ a ≤ 0x67 then s.speeds[classAt a].byteAt ((a - 0x58) % 4)
  else 0

/-- The high byte captured with the low byte at 34h, 36h or 50h: the live one of the same value (R172). Only for a shadow
that is valid already, which differs from it after a removal and a wrap, it is free whether 34h and 36h keep the shadow
(R151, `Config.wrapShowsRemoved`, log 15). Under the empty view it is 00h (R152). -/
def State.peekHigh (s : State) (addr : Addr) : Byte :=
  match addr.toNat with
  | 0x34 =>
    if s.shadowFinal.isSome && Config.wrapShowsRemoved then s.windowAt 0x35
    else ({ s with shadowFinal := none } : State).windowAt 0x35
  | 0x36 =>
    if s.shadowDriven.isSome && Config.wrapShowsRemoved then s.windowAt 0x37
    else ({ s with shadowDriven := none } : State).windowAt 0x37
  | 0x50 => highByte (s.act s.actSel).position
  | _ => 0

/-- The capture of a byte (R169, R172), with whether it is a window byte captured while the completion order is empty
(R152). -/
def State.capture (s : State) (addr : Addr) : Captured :=
  { value := s.peek addr, high := s.peekHigh addr, empty := inWindow addr.toNat && s.completion.isEmpty }

/-! ### Writing stored fields (R168, R170) -/

/-- A byte written to a page field, stored as written (R6). -/
def ActConfig.store (c : ActConfig) (a : Nat) (v : Byte) : ActConfig :=
  match a with
  | 0x41 => { c with posLeg := v.setWidth 4, negLeg := (v >>> 4).setWidth 4 }
  | 0x42 => { c with enable := v }
  | 0x43 => { c with min := withLow c.min v }
  | 0x44 => { c with min := withHigh c.min v }
  | 0x45 => { c with max := withLow c.max v }
  | 0x46 => { c with max := withHigh c.max v }
  | 0x47 => { c with openEnd := withLow c.openEnd v }
  | 0x48 => { c with openEnd := withHigh c.openEnd v }
  | 0x49 => { c with closeEnd := withLow c.closeEnd v }
  | 0x4A => { c with closeEnd := withHigh c.closeEnd v }
  | 0x4B => { c with approach := v }
  | 0x4C => { c with startWin := v }
  | 0x4D => { c with stallWin := v }
  | 0x4E => { c with strayLimit := v }
  | _ => c

/-- A byte written to staging, stored as written (R53). -/
def Staging.store (g : Staging) (a : Nat) (v : Byte) : Staging :=
  match a with
  | 0x20 => { g with kind := v }
  | 0x21 => { g with act := v }
  | 0x22 => { g with arg := withLow g.arg v }
  | 0x23 => { g with arg := withHigh g.arg v }
  | 0x24 => { g with speed := v }
  | 0x25 => { g with timeout := v }
  | 0x26 => { g with flags := v }
  | 0x27 => { g with tag := v }
  | _ => g

/-- A byte written to a global setting that acts on nothing at once, with the clamping of R177; the pass limit and
the WARM cap have rows of their own. -/
def Settings.store (g : Settings) (a : Nat) (v : Byte) : Settings :=
  match a with
  | 0x18 => { g with dead := clamp 1 16 v }
  | 0x19 => { g with brake := clamp 1 255 v }
  | 0x1A => { g with ramp := clamp 1 255 v }
  | 0x1B => { g with restart := clamp 1 255 v }
  | 0x1C => { g with suspend := v }
  | 0x1F => { g with autoResume := v.getLsbD 0 }
  | _ => g

/-- A byte written to a speed class, with the clamping of R178. -/
def SpeedClass.store (c : SpeedClass) (n : Nat) (v : Byte) : SpeedClass :=
  match n with
  | 0 => { c with start := clamp 8 64 v }
  | 1 => { c with run := clamp 8 64 v }
  | 2 => { c with step := clamp 1 64 v }
  | 3 => { c with approach := clamp 8 64 v }
  | _ => c

/-- A byte written to an address with no row of its own: stored, clamped, or discarded at a read-only, unassigned or
refusing address (R168, R170). -/
def State.store (s : State) (addr : Addr) (v : Byte) : State :=
  let a := addr.toNat
  if a = 0x08 then { s with cmdArg := v }
  else if a = 0x09 then { s with cmdValue := withLow s.cmdValue v }
  else if a = 0x0A then { s with cmdValue := withHigh s.cmdValue v }
  else if 0x18 ≤ a ∧ a ≤ 0x1F then { s with settings := s.settings.store a v }
  else if 0x20 ≤ a ∧ a ≤ 0x27 then { s with staging := s.staging.store a v }
  else if a = 0x3A then
    match slotOf v with
    | some i => { s with slotSel := i }
    | none => s
  else if 0x41 ≤ a ∧ a ≤ 0x4E then { s with page := s.page.store a v }
  else if 0x58 ≤ a ∧ a ≤ 0x67 then
    { s with speeds := s.speeds.set (classAt a) (s.speeds[classAt a].store ((a - 0x58) % 4) v) }
  else s

/-! ### Writes with an effect at once -/

/-- A write to 02h or 03h clears flags (R159). -/
def State.writeFlags (addr : Addr) (v : Byte) (s : State) : State :=
  if addr = 0x02 then s.clearFlags (v.setWidth 16)
  else if addr = 0x03 then s.clearFlags (v.setWidth 16 <<< 8)
  else s

/-- A write to 04h or 05h sets mask bits 0 to 11 (R161). -/
def State.writeMask (addr : Addr) (v : Byte) (s : State) : State :=
  if addr = 0x04 then { s with mask := withLow s.mask v &&& maskBits }
  else if addr = 0x05 then { s with mask := withHigh s.mask v &&& maskBits }
  else s

/-- A write to the pass limit, stored clamped to 15; PRESSING is set if it makes a QUEUED order pressing (R81). -/
def State.writePassLimit (v : Byte) (s : State) : State :=
  let t := { s with settings := { s.settings with passLimit := clamp 0 15 v } }
  t.setFlagIf (newlyPressing s t) .pressing

/-- A write to the WARM cap, stored clamped to 8..64; while the state is WARM every driving move's current duty is set
anew (R95). -/
def State.writeWarmCap (v : Byte) (s : State) : State :=
  let t := { s with settings := { s.settings with warmCap := clamp 8 64 v } }
  if s.thermal = .warm then t.recap.settle else t

/-- A SUBMIT request (R54), with the dispatch pass of an accepted one (R57). -/
def State.submitRequest (s : State) : State :=
  match s.checkSubmit with
  | .ok (i, o) => (s.accept i o).dispatch
  | .error r => s.refuseSubmit r

end Sys2Proof.Machine
end

