-- ==== Sys2Proof/Machine/Commands.lean ====
section
/-! DEFINITION. The commands of COMMAND at 07h (R176): their work on the state. The port's part, the byte that carries the code, is in Port.lean. -/

namespace Sys2Proof.Machine

/-- COMMAND_RESULT stored (R176). -/
def State.result (s : State) (r : CmdResult) : State := { s with cmdResult := r }

/-- COMMAND_RESULT OK with a count in RESULT_DETAIL (R176). -/
def State.resultCount (s : State) (n : Nat) : State := { s with cmdResult := .ok, cmdDetail := BitVec.ofNat 8 n }

/-- RUN (R66). -/
def State.cmdRun (s : State) : State := ({ s with running := true }.result .ok).dispatch

/-- The active orders, oldest first, as STOP takes them (R127): QUEUED orders are not affected. -/
def State.activeOrders (s : State) : List SlotNo := s.accepted SlotState.isActive

/-- STOP (R67, R127). -/
def State.cmdStop (s : State) : State :=
  let is := s.activeOrders
  ((({ s with running := false }.withdraw .stopped is).resultCount (s.countWithdrawn is))).dispatchIfEnded s

/-- How many moves are SUSPENDED (R122). -/
def State.countSuspended (s : State) : Nat := s.countSlots fun x => x.inPhase (· == .suspended)

/-- RESUME (R122). -/
def State.cmdResume (s : State) : State :=
  if s.supply = .inRange then (s.resumeAll.resultCount s.countSuspended).dispatch else s.result .state

/-- An accepted cancel of the orders in the slots `is`, in acceptance order (R130). -/
def State.cancel (is : List SlotNo) (s : State) : State :=
  ((s.withdraw .cancelled is).resultCount (s.countWithdrawn is)).dispatchIfEnded s

/-- The slot holds a QUEUED or ACTIVE order with the tag (R129). -/
def SlotState.hasTag (t : Byte) (x : SlotState) : Bool :=
  match x.order with
  | some o => o.tag == t
  | none => false

/-- CANCEL_ACT (R129): every move order for the actuator; fences are not matched. -/
def State.cmdCancelAct (s : State) : State :=
  match actOf s.cmdArg with
  | some a => s.cancel (s.accepted fun x => x.ordersFor a)
  | none => s.result .badArg

/-- CANCEL_TAG (R129): every order with the tag, fences included. -/
def State.cmdCancelTag (s : State) : State := s.cancel (s.accepted fun x => x.hasTag s.cmdArg)

/-- CANCEL_SLOT (R129): the order in the slot, if it is QUEUED or ACTIVE. -/
def State.cmdCancelSlot (s : State) : State :=
  match slotOf s.cmdArg with
  | some i => s.cancel (s.acceptance.filter fun j => j == i)
  | none => s.result .badArg

/-- CANCEL_ALL (R129). -/
def State.cmdCancelAll (s : State) : State := s.cancel s.acceptance

/-- The leg is OFF and the mask names it (R36). -/
def State.clears (s : State) (mask : Byte) (k : LegNo) : Bool := maskNames mask k && (s.leg k).state == .off

/-- CLEAR_LEG (R36). -/
def State.cmdClearLeg (s : State) : State :=
  if s.cmdArg.getLsbD 6 || s.cmdArg.getLsbD 7 then s.result .badArg
  else
    ((s.mapLegs fun k l => if s.clears s.cmdArg k then l.enter .float else l).resultCount
      ((List.finRange 6).countP (s.clears s.cmdArg))).dispatch

/-- CLEAR_THERMAL (R142): from COOLED to WARM or NORMAL by the warn comparator, with the dispatch pass. The current
duties are set anew as R94 asks of every entry to WARM. -/
def State.cmdClearThermal (s : State) : State :=
  if s.thermal = .cooled then
    (({ s with thermal := if s.warnSet then .warm else .normal }.recap.settle).result .ok).dispatch
  else s.result .state

/-- SET_POSITION's effect on an entry (R18). -/
def Actuator.place (e : Actuator) (p : Half) : Actuator := { e with position := p, valid := true, stray := 0 }

/-- SET_POSITION (R18). -/
def State.cmdSetPosition (s : State) : State :=
  match actOf s.cmdArg with
  | none => s.result .badArg
  | some a =>
    if (s.act a).config.enabled ∧ (s.act a).activeSlot = none then
      (s.setAct a ((s.act a).place s.cmdValue)).result .ok
    else s.result .state

/-- An entry at motion reset: UNKNOWN if it had an active move, and ACTIVE_SLOT absent (R20). -/
def Actuator.cutOff (e : Actuator) : Actuator :=
  { e with valid := e.valid && e.activeSlot.isNone, activeSlot := none }

/-- A VALID entry with an active move becomes UNKNOWN at motion reset (R20). -/
def Actuator.losesByReset (e : Actuator) : Bool := e.valid && e.activeSlot.isSome

/-- A leg at motion reset: claims removed, FLOAT unless OFF (R39). -/
def Leg.cutOff (l : Leg) : Leg := { l.enter (if l.state = .off then .off else .float) with claims := [] }

/-- MOTION_RESET (R133). No dispatch pass follows. -/
def State.cmdMotionReset (s : State) : State :=
  let lost := (List.finRange 8).any fun a => (s.act a).losesByReset
  let t := (s.mapActs fun _ e => e.cutOff).mapLegs fun _ l => l.cutOff
  let t := { t with slots := Vector.replicate 16 .free, acceptance := [], completion := [], grant := none,
                    running := false }
  (t.setFlagIf lost .positionLost).resultCount (s.countSlots fun x => !x.isFree)

/-- A code that names no command (R176). -/
def State.cmdUnknown (s : State) : State := s.result .unknown

/-- A byte written to COMMAND takes the command it names (R176). -/
def State.command (code : Byte) (s : State) : State :=
  match code.toNat with
  | 0x01 => s.cmdRun
  | 0x02 => s.cmdStop
  | 0x03 => s.cmdResume
  | 0x10 => s.cmdCancelAct
  | 0x11 => s.cmdCancelTag
  | 0x12 => s.cmdCancelSlot
  | 0x13 => s.cmdCancelAll
  | 0x20 => s.cmdClearLeg
  | 0x21 => s.cmdClearThermal
  | 0x30 => s.cmdSetPosition
  | 0x3F => s.cmdMotionReset
  | _ => s.cmdUnknown

end Sys2Proof.Machine
end

