-- ==== Sys2Proof/Machine/Port.lean ====
section
/-! DEFINITION. The serial port (chapter 9): the steps of a transfer, and the meaning of every command that is a byte of one. -/

namespace Sys2Proof.Machine

/-! ### Where the port stands -/

/-- The port takes a data byte of a write transfer at the address (R165, R168); during a full reset it takes none
(R181). -/
def State.writesAt (s : State) (a : Addr) : Bool :=
  match s.port with
  | .data true p _ => p == a && !s.inReset
  | .data false _ _ | .idle | .header _ | .ignore => false

/-- The byte in shift of a read transfer at an address that `p` selects, with that address (R169). -/
def State.readsAt (s : State) (p : Nat → Bool) : Option (Addr × Captured) :=
  match s.port with
  | .data false a c => if p a.toNat && !s.inReset then some (a, c) else none
  | .data true _ _ | .idle | .header _ | .ignore => none

/-- What SDO shifts out as data: in a write transfer 00h (R168). -/
def noByte : Captured := { value := 0, high := 0, empty := false }

/-- A byte of a read transfer is captured, to be shifted out next (R169). While the empty view is set, the capture of
34h or 36h places 00h in its shadow (R152). -/
def State.beginRead (a : Addr) (s : State) : State :=
  { s with
    port := .data false a (s.capture a)
    shadowFinal := if s.emptyView ∧ a = 0x34 then some 0 else s.shadowFinal
    shadowDriven := if s.emptyView ∧ a = 0x36 then some 0 else s.shadowDriven }

/-- After a data byte the pointer advances by one, from 7Fh to 00h; in a read transfer the next byte is captured in
the same step (R168, R169). So a byte shows its address as it stands at this capture, also where R3, R60, R61 and R151
say "when it is read"; for the 03h byte, of which R157 says more, see `State.sdo` (log 23). -/
def State.advance (s : State) : State :=
  match s.port with
  | .data true a _ => { s with port := .data true (a + 1) noByte }
  | .data false a _ => s.beginRead (a + 1)
  | .idle => s
  | .header _ => s
  | .ignore => s

/-- The 03h byte in shift, with the flags of bits 8 to 11 set since its capture where they show in it (R157 against
R169 and R179, free, log 23). No flag is cleared while it is in shift, since only a write clears one. -/
def State.flagByte (s : State) (captured : Byte) : Byte :=
  let late := captured ||| highByte s.eventFlags
  if late != captured && Config.lateFlagShows then late else captured

/-- The byte on SDO: the status byte in HEADER, the captured byte in DATA, high impedance in IDLE and IGNORE
(R165). -/
def State.sdo (s : State) : Option Byte :=
  match s.port with
  | .header b => some b
  | .data true _ c => some c.value
  | .data false a c => some (if a = 0x03 then s.flagByte c.value else c.value)
  | .idle => none
  | .ignore => none

/-! ### Framing -/

/-- SELN_FALLING in IDLE (R165, R167). -/
def State.selnFalling (s : State) : State :=
  match s.port with
  | .idle => { s with port := .header s.statusByte }
  | .header _ => s
  | .data _ _ _ => s
  | .ignore => s

/-- HEADER_BYTE in HEADER (R166). -/
def State.headerByte (b : Byte) (s : State) : State :=
  match s.port with
  | .header _ =>
    if b.getLsbD 7 then { s with port := .data true (b.setWidth 7) noByte } else s.beginRead (b.setWidth 7)
  | .idle => s
  | .data _ _ _ => s
  | .ignore => s

/-- The end of a transfer: IDLE, marks invalid, empty view clear (R165, R172, R152). -/
def State.endTransfer (s : State) : State :=
  { s with port := .idle, shadowFinal := none, shadowDriven := none, shadowPosition := none, emptyView := false }

/-- TRANSFER_END with the number of bits of an unfinished byte (R165, R171); in IGNORE the port enters IDLE and no
byte is partial. -/
def State.transferEnd (bits : Fin 8) (s : State) : State :=
  match s.port with
  | .header _ => s.endTransfer.setFlagIf (bits != 0) .frameErr
  | .data _ _ _ => s.endTransfer.setFlagIf (bits != 0) .frameErr
  | .ignore => s.endTransfer
  | .idle => s

/-! ### Reads (R169, R152, R153, R172) -/

/-- The empty view set by the read of a window byte captured while the completion order was empty (R152). -/
def State.viewRead (s : State) (a : Addr) (c : Captured) : State :=
  if inWindow a.toNat && c.empty then { s with emptyView := true } else s

/-- The high byte captured with a low byte goes to its value's shadow when the low byte is read, also when the shadow is
valid already (R169, R172). -/
def State.fillShadow (s : State) (a : Addr) (c : Captured) : State :=
  if a = 0x34 then { s with shadowFinal := some c.high }
  else if a = 0x36 then { s with shadowDriven := some c.high }
  else if a = 0x50 then { s with shadowPosition := some c.high }
  else s

/-- The removal of the head record, unless the completion order is empty or the empty view is set (R153, R45). -/
def State.pop (s : State) : State :=
  if s.emptyView then s
  else
    match s.completion with
    | [] => s
    | i :: rest => { s with slots := s.slots.set i .free, completion := rest }

/-- The effect of reading the byte at an address (R169): the empty view, the shadow, and at 39h the removal. -/
def State.readEffect (s : State) (a : Addr) (c : Captured) : State :=
  let t := (s.viewRead a c).fillShadow a c
  if a = 0x39 then t.pop else t

/-- The addresses of COMPLETION_WINDOW_READ. -/
def isWindowRead (a : Nat) : Bool := decide (0x30 ≤ a) && decide (a ≤ 0x38)

/-- A read row at the addresses that `p` selects: the byte in shift there is read and the next one captured. -/
def readRow (p : Nat → Bool) (s : State) : Host.Outcome State Fault Refusal :=
  .next <|
    match s.readsAt p with
    | some (a, c) => (s.readEffect a c).advance
    | none => s

/-! ### Writes (R168) -/

/-- The whole effect of a byte written to an address, as the owner of the address gives it (R168). -/
def State.takeWrite (a : Addr) (v : Byte) (s : State) : State :=
  match a.toNat with
  | 0x02 => s.writeFlags 0x02 v
  | 0x03 => s.writeFlags 0x03 v
  | 0x04 => s.writeMask 0x04 v
  | 0x05 => s.writeMask 0x05 v
  | 0x07 => s.command v
  | 0x1D => s.writePassLimit v
  | 0x1E => s.writeWarmCap v
  | 0x28 => s.submitRequest
  | 0x40 => s.writeActSel v
  | 0x4F => s.applyRequest
  | _ => s.store a v

/-- A write row at an address: the byte has its whole effect and the pointer advances; elsewhere the row does not
arise (log 2). -/
def writeRow (a : Addr) (f : State → State) (s : State) : Host.Outcome State Fault Refusal :=
  .next (if s.writesAt a then (f s).advance else s)

/-- A data byte taken at whatever address the pointer holds: written in a write transfer, read in a read transfer,
where SDI is ignored (R168, R169). -/
def State.dataByte (v : Byte) (s : State) : State :=
  match s.port with
  | .data true a _ => (s.takeWrite a v).advance
  | .data false a c => (s.readEffect a c).advance
  | .idle => s
  | .header _ => s
  | .ignore => s

/-! ### The meanings -/

/-- SELN_FALLING (R165). -/
def execSelnFalling (s : State) : Host.Outcome State Fault Refusal := whenLive State.selnFalling s

/-- HEADER_BYTE (R166). -/
def execHeaderByte (b : Byte) (s : State) : Host.Outcome State Fault Refusal := whenLive (State.headerByte b) s

/-- TRANSFER_END (R165). -/
def execTransferEnd (bits : Fin 8) (s : State) : Host.Outcome State Fault Refusal :=
  whenLive (State.transferEnd bits) s

/-- REGISTER_WRITE (R168): a data byte at the pointer (log 2, log 3). -/
def execRegisterWrite (v : Byte) (s : State) : Host.Outcome State Fault Refusal := whenLive (State.dataByte v) s

/-- SUBMIT (R54): any value written to 28h. -/
def execSubmit (_v : Byte) (s : State) : Host.Outcome State Fault Refusal := writeRow 0x28 State.submitRequest s

/-- APPLY (R7): any value written to 4Fh. -/
def execApply (_v : Byte) (s : State) : Host.Outcome State Fault Refusal := writeRow 0x4F State.applyRequest s

/-- ACT_SEL_WRITE (R5). -/
def execActSelWrite (v : Byte) (s : State) : Host.Outcome State Fault Refusal :=
  writeRow 0x40 (State.writeActSel v) s

/-- FLAGS_WRITE (R159) at 02h or 03h. -/
def execFlagsWrite (v : Byte) (s : State) : Host.Outcome State Fault Refusal :=
  if s.writesAt 0x03 then writeRow 0x03 (State.writeFlags 0x03 v) s else writeRow 0x02 (State.writeFlags 0x02 v) s

/-- MASK_WRITE (R161) at 04h or 05h. -/
def execMaskWrite (v : Byte) (s : State) : Host.Outcome State Fault Refusal :=
  if s.writesAt 0x05 then writeRow 0x05 (State.writeMask 0x05 v) s else writeRow 0x04 (State.writeMask 0x04 v) s

/-- PASSLIM_WRITE (R81). -/
def execPasslimWrite (v : Byte) (s : State) : Host.Outcome State Fault Refusal :=
  writeRow 0x1D (State.writePassLimit v) s

/-- WARMCAP_WRITE (R95). -/
def execWarmcapWrite (v : Byte) (s : State) : Host.Outcome State Fault Refusal :=
  writeRow 0x1E (State.writeWarmCap v) s

/-- COMPLETION_WINDOW_READ (R152) of a byte of 30h to 38h. -/
def execCompletionWindowRead (s : State) : Host.Outcome State Fault Refusal := readRow isWindowRead s

/-- COMPLETION_POP (R153): the read of 39h. -/
def execCompletionPop (s : State) : Host.Outcome State Fault Refusal := readRow (· == 0x39) s

/-- POSITION_READ (R172): the read of 50h. -/
def execPositionRead (s : State) : Host.Outcome State Fault Refusal := readRow (· == 0x50) s

/-- RUN (R66). -/
def execRun (s : State) : Host.Outcome State Fault Refusal := writeRow 0x07 State.cmdRun s

/-- STOP (R127). -/
def execStop (s : State) : Host.Outcome State Fault Refusal := writeRow 0x07 State.cmdStop s

/-- RESUME (R122). -/
def execResume (s : State) : Host.Outcome State Fault Refusal := writeRow 0x07 State.cmdResume s

/-- CANCEL_ACT (R130). -/
def execCancelAct (s : State) : Host.Outcome State Fault Refusal := writeRow 0x07 State.cmdCancelAct s

/-- CANCEL_TAG (R130). -/
def execCancelTag (s : State) : Host.Outcome State Fault Refusal := writeRow 0x07 State.cmdCancelTag s

/-- CANCEL_SLOT (R130). -/
def execCancelSlot (s : State) : Host.Outcome State Fault Refusal := writeRow 0x07 State.cmdCancelSlot s

/-- CANCEL_ALL (R130). -/
def execCancelAll (s : State) : Host.Outcome State Fault Refusal := writeRow 0x07 State.cmdCancelAll s

/-- CLEAR_LEG (R36). -/
def execClearLeg (s : State) : Host.Outcome State Fault Refusal := writeRow 0x07 State.cmdClearLeg s

/-- CLEAR_THERMAL (R142). -/
def execClearThermal (s : State) : Host.Outcome State Fault Refusal := writeRow 0x07 State.cmdClearThermal s

/-- SET_POSITION (R18). -/
def execSetPosition (s : State) : Host.Outcome State Fault Refusal := writeRow 0x07 State.cmdSetPosition s

/-- MOTION_RESET (R133). -/
def execMotionReset (s : State) : Host.Outcome State Fault Refusal := writeRow 0x07 State.cmdMotionReset s

/-- UNKNOWN_COMMAND (R176): a code that names no command; a code that names one is that command's row, not this
one (log 2). -/
def execUnknownCommand (code : Byte) (s : State) : Host.Outcome State Fault Refusal :=
  if commandCodes.contains code then .next s else writeRow 0x07 State.cmdUnknown s

end Sys2Proof.Machine
end

