-- ==== Sys2Proof/Machine/Resets.lean ====
section
/-! DEFINITION. The full reset in time (R181): its beginning and its end. -/

namespace Sys2Proof.Machine

/-- FULL_RESET (R181): every piece of state takes its full-reset value, and every leg floats without claims (R38). The
queue of commands and the model's own counters are no state of the part and stay (log 10); a leg that conducts ends its
run, so a detection made before is lost (R149). A cause that arrives during a reset begins it again. -/
def State.fullReset (s : State) : State :=
  { State.reset with
    legs := Vector.ofFn fun k => { (s.leg k).enter .float with claims := [] }
    pending := s.pending, arrivals := s.arrivals, serial := s.serial, restartRun := s.restartRun }

/-- The thermal state and comparators taken from the die (R136). -/
def State.takeDie (die : DieAtReset) (s : State) : State :=
  match die with
  | .cool => { s with thermal := .normal, warnSet := false, shutdownSet := false }
  | .aboveWarn => { s with thermal := .warm, warnSet := true, shutdownSet := false }
  | .aboveShutdown => { s with thermal := .shutdown, warnSet := true, shutdownSet := true }

/-- The supply monitor taken from VBR, with the supply in-range event delivered at once inside the re-entry window
(R145). -/
def State.takeVbr (vbr : VbrAtReset) (s : State) : State :=
  match vbr with
  | .outside => { s with insideOuter := false }
  | .between => { s with insideOuter := true }
  | .reentry => { s with insideOuter := true }.supplyInRange

/-- RESET_END (R181): the monitors taken from the die, VBR and HOLDN, and the port IDLE or IGNORE. It ends a reset
that is under way. -/
def State.resetEnd (die : DieAtReset) (vbr : VbrAtReset) (holdLow selnLow : Bool) (s : State) : State :=
  if s.inReset then
    { (s.takeDie die).takeVbr vbr with
      inReset := false, holdOn := holdLow, port := if selnLow then .ignore else .idle }
  else s

/-- FULL_RESET (R181). -/
def execFullReset (s : State) : Host.Outcome State Fault Refusal := .next s.fullReset

/-- RESET_END (R181). -/
def execResetEnd (die : DieAtReset) (vbr : VbrAtReset) (holdLow selnLow : Bool) (s : State) :
    Host.Outcome State Fault Refusal :=
  .next (s.resetEnd die vbr holdLow selnLow)

end Sys2Proof.Machine
end

