-- ==== Sys2Proof/Machine/Dispatch.lean ====
section
/-! DEFINITION. One arm per row of the opcode table. -/

namespace Sys2Proof.Machine

def exec (i : Instr) (s : State) : Host.Outcome State Fault Refusal :=
  match i with
  | .selnFalling => Sys2Proof.Machine.execSelnFalling s
  | .headerByte b => Sys2Proof.Machine.execHeaderByte b s
  | .transferEnd bits => Sys2Proof.Machine.execTransferEnd bits s
  | .registerWrite v => Sys2Proof.Machine.execRegisterWrite v s
  | .submit v => Sys2Proof.Machine.execSubmit v s
  | .apply v => Sys2Proof.Machine.execApply v s
  | .actSelWrite v => Sys2Proof.Machine.execActSelWrite v s
  | .flagsWrite v => Sys2Proof.Machine.execFlagsWrite v s
  | .maskWrite v => Sys2Proof.Machine.execMaskWrite v s
  | .passlimWrite v => Sys2Proof.Machine.execPasslimWrite v s
  | .warmcapWrite v => Sys2Proof.Machine.execWarmcapWrite v s
  | .completionWindowRead => Sys2Proof.Machine.execCompletionWindowRead s
  | .completionPop => Sys2Proof.Machine.execCompletionPop s
  | .positionRead => Sys2Proof.Machine.execPositionRead s
  | .run => Sys2Proof.Machine.execRun s
  | .stop => Sys2Proof.Machine.execStop s
  | .resume => Sys2Proof.Machine.execResume s
  | .cancelAct => Sys2Proof.Machine.execCancelAct s
  | .cancelTag => Sys2Proof.Machine.execCancelTag s
  | .cancelSlot => Sys2Proof.Machine.execCancelSlot s
  | .cancelAll => Sys2Proof.Machine.execCancelAll s
  | .clearLeg => Sys2Proof.Machine.execClearLeg s
  | .clearThermal => Sys2Proof.Machine.execClearThermal s
  | .setPosition => Sys2Proof.Machine.execSetPosition s
  | .motionReset => Sys2Proof.Machine.execMotionReset s
  | .unknownCommand code => Sys2Proof.Machine.execUnknownCommand code s
  | .ripplePulse a => Sys2Proof.Machine.execRipplePulse a s
  | .rampExpiry n => Sys2Proof.Machine.execRampExpiry n s
  | .windowExpiry n => Sys2Proof.Machine.execWindowExpiry n s
  | .timeoutExpiry n => Sys2Proof.Machine.execTimeoutExpiry n s
  | .brakeTimerExpiry n => Sys2Proof.Machine.execBrakeTimerExpiry n s
  | .fenceDelayExpiry n => Sys2Proof.Machine.execFenceDelayExpiry n s
  | .suspendLimitExpiry n => Sys2Proof.Machine.execSuspendLimitExpiry n s
  | .restartDelayExpiry run => Sys2Proof.Machine.execRestartDelayExpiry s run
  | .deadIntervalEnd r => Sys2Proof.Machine.execDeadIntervalEnd r s
  | .overCurrent r => Sys2Proof.Machine.execOverCurrent r s
  | .holdAsserted => Sys2Proof.Machine.execHoldAsserted s
  | .holdReleased => Sys2Proof.Machine.execHoldReleased s
  | .supplyOut => Sys2Proof.Machine.execSupplyOut s
  | .supplyInRange => Sys2Proof.Machine.execSupplyInRange s
  | .warnRise => Sys2Proof.Machine.execWarnRise s
  | .warnFall => Sys2Proof.Machine.execWarnFall s
  | .shutdownRise => Sys2Proof.Machine.execShutdownRise s
  | .shutdownFall => Sys2Proof.Machine.execShutdownFall s
  | .fullReset => Sys2Proof.Machine.execFullReset s
  | .resetEnd die vbr holdLow selnLow => Sys2Proof.Machine.execResetEnd die vbr holdLow selnLow s
  | .outerWindowReentry => Sys2Proof.Machine.execOuterWindowReentry s

end Sys2Proof.Machine
end

