-- ==== Sys2Proof/Machine/Time.lean ====
section
/-! DEFINITION. Time (R87, R101): what the block does while no command waits. It takes an expiry that is due, or lets one unit of 0.5 us pass, in which the running timers count down and the driving time counts up. -/

namespace Sys2Proof.Machine

/-- A running timer counts down; one that does not run stays absent. -/
def countDown (t : Option Ticks) : Option Ticks := t.map (· - 1)

/-- One unit of time for an active move: each timer runs in its phases only (R87), and driving time and the timeout
count in the driving phases only (R101). -/
def Move.tick (m : Move) : Move :=
  match m.phase with
  | .starting =>
    { m with
      driveTicks := m.driveTicks + 1, timeoutLeft := countDown m.timeoutLeft, rampTimer := countDown m.rampTimer
      window := countDown m.window }
  | .running | .approaching =>
    { m with
      driveTicks := m.driveTicks + 1, timeoutLeft := countDown m.timeoutLeft, window := countDown m.window }
  | .braking => { m with brakeTimer := countDown m.brakeTimer }
  | .held => m
  | .suspended => { m with suspendTimer := countDown m.suspendTimer }

/-- One unit of time for a slot; a fence's delay runs whatever else holds (R108). -/
def SlotState.tick : SlotState → SlotState
  | .active o m => .active o m.tick
  | .waiting o n => .waiting o (n - 1)
  | .free => .free
  | .queued o => .queued o
  | .done r => .done r

/-- One unit of time for a leg in BREAK (R28). -/
def LegState.tick : LegState → LegState
  | .brk d n => .brk d (n - 1)
  | .float => .float
  | .low => .low
  | .high => .high
  | .mod => .mod
  | .ext => .ext
  | .off => .off

/-- One unit of time for the restart delay (R119). -/
def Supply.tick : Supply → Supply
  | .recovering n => .recovering (n - 1)
  | .inRange => .inRange
  | .out => .out

/-- A timer that has run out. -/
def isDue (t : Option Ticks) : Bool := t == some 0

/-- A command if a condition holds. -/
def only (b : Bool) (c : Instr) : List Instr := if b then [c] else []

/-- The expiries due at a slot, by the phase in which each timer runs (R87). -/
def SlotState.dues (i : SlotNo) : SlotState → List Instr
  | .active o m =>
    match m.phase with
    | .starting =>
      only (isDue m.rampTimer && !m.extHeld) (.rampExpiry ⟨⟨i, o.serial⟩, m.rampRun⟩) ++
        only (isDue m.window) (.windowExpiry ⟨⟨i, o.serial⟩, m.windowRun⟩) ++
        only (isDue m.timeoutLeft) (.timeoutExpiry ⟨i, o.serial⟩)
    | .running | .approaching =>
      only (isDue m.window) (.windowExpiry ⟨⟨i, o.serial⟩, m.windowRun⟩) ++
        only (isDue m.timeoutLeft) (.timeoutExpiry ⟨i, o.serial⟩)
    | .braking => only (isDue m.brakeTimer) (.brakeTimerExpiry ⟨i, o.serial⟩)
    | .held => []
    | .suspended => only (isDue m.suspendTimer) (.suspendLimitExpiry ⟨⟨i, o.serial⟩, m.suspendRun⟩)
  | .waiting o n => only (n == 0) (.fenceDelayExpiry ⟨i, o.serial⟩)
  | .free => []
  | .queued _ => []
  | .done _ => []

/-- The end of a leg's dead interval, if it is due (R29). -/
def Leg.dues (k : LegNo) (l : Leg) : List Instr :=
  match l.state with
  | .brk _ n => only (n == 0) (.deadIntervalEnd ⟨k, l.run⟩)
  | .float => []
  | .low => []
  | .high => []
  | .mod => []
  | .ext => []
  | .off => []

/-- The end of the restart delay, if it is due (R120). -/
def Supply.dues (run : Nat) : Supply → List Instr
  | .recovering n => only (n == 0) (.restartDelayExpiry run)
  | .inRange => []
  | .out => []

/-- Every expiry that is due. -/
def State.dues (s : State) : List Instr :=
  (List.finRange 16).flatMap (fun i => (s.slot i).dues i) ++
    (List.finRange 6).flatMap (fun k => (s.leg k).dues k) ++ s.supply.dues s.restartRun

/-- The expiry taken among those that are due: with several due at one moment the manual gives the result of either
order and fixes none, so which comes first is free (log 6). -/
def State.nextDue (s : State) : Option Instr :=
  match s.dues with
  | [] => none
  | [c] => some c
  | c :: d :: cs => (c :: d :: cs)[Config.firstDue s.arrivals (cs.length + 2) % (cs.length + 2)]?

/-- The clocks of the state advanced by one unit. -/
def State.clocks (s : State) : State :=
  { (s.mapSlots fun _ x => x.tick).mapLegs fun _ l => { l with state := l.state.tick } with
    supply := s.supply.tick }

/-- What the block does while no command waits (log 5): an expiry that is due is taken, and with none due one unit of
time passes. While a full reset lasts nothing runs (R181). -/
def State.idle (s : State) : Host.Outcome State Fault Refusal :=
  if s.inReset then .next s
  else
    match s.nextDue with
    | some c => exec c { s with arrivals := s.arrivals + 1 }
    | none => .next s.clocks

end Sys2Proof.Machine
end

