-- ==== Sys2Proof/Machine/Step.lean ====
section
/-! DEFINITION. The step of the block: the command at the front of the queue, or what the block does while none waits. -/

namespace Sys2Proof.Machine

/-- The state with the command put at the front of its queue. -/
def State.withFront (s : State) (c : Instr) : State := { s with pending := c :: s.pending }

/-- The command that a table word spells put at the front of the queue; no word spells one (Decode.lean), so this
changes nothing. -/
def State.withFetchWord (s : State) (nbits w : Nat) : State :=
  match decodeTableWord nbits w with
  | some c => s.withFront c
  | none => s

/-- One step: the command at the front of the queue runs on the state with the queue's rest; on an empty queue an
expiry that is due is taken, or one unit of 0.5 us passes (log 5). -/
def step (s : State) : Host.Outcome State Fault Refusal :=
  match s.pending with
  | c :: rest => exec c { s with pending := rest }
  | [] => s.idle

end Sys2Proof.Machine
end

