-- ==== Sys2Proof/Safety.lean ====
section
/-! DEFINITION. The laws of the part, which every step keeps, and the words the statements use about a state: where the port stands, and what a step may have changed. -/

namespace Sys2Proof

/-! ### Rows and addresses -/

/-- The addresses at which a row of its own takes the data byte of a write transfer (R168, R176); none for a row that
is no written byte of its own address. -/
def Instr.writeAddrs : Instr → List Addr
  | .submit _ => [0x28]
  | .apply _ => [0x4F]
  | .actSelWrite _ => [0x40]
  | .flagsWrite _ => [0x02, 0x03]
  | .maskWrite _ => [0x04, 0x05]
  | .passlimWrite _ => [0x1D]
  | .warmcapWrite _ => [0x1E]
  | .run | .stop | .resume | .cancelAct | .cancelTag | .cancelSlot | .cancelAll | .clearLeg | .clearThermal
  | .setPosition | .motionReset | .unknownCommand _ => [0x07]
  | .selnFalling | .headerByte _ | .transferEnd _ | .registerWrite _ | .completionWindowRead | .completionPop
  | .positionRead | .ripplePulse _ | .rampExpiry _ | .windowExpiry _ | .timeoutExpiry _ | .brakeTimerExpiry _
  | .fenceDelayExpiry _ | .suspendLimitExpiry _ | .restartDelayExpiry _ | .deadIntervalEnd _ | .overCurrent _
  | .holdAsserted | .holdReleased | .supplyOut | .supplyInRange | .warnRise | .warnFall | .shutdownRise
  | .shutdownFall | .fullReset | .resetEnd _ _ _ _ | .outerWindowReentry => []

/-- The command a code names, by the table of R176. -/
def commandRow (code : Byte) : Instr :=
  if code = 0x01 then .run
  else if code = 0x02 then .stop
  else if code = 0x03 then .resume
  else if code = 0x10 then .cancelAct
  else if code = 0x11 then .cancelTag
  else if code = 0x12 then .cancelSlot
  else if code = 0x13 then .cancelAll
  else if code = 0x20 then .clearLeg
  else if code = 0x21 then .clearThermal
  else if code = 0x30 then .setPosition
  else if code = 0x3F then .motionReset
  else .unknownCommand code

end Sys2Proof

namespace Sys2Proof.Machine

/-! ### Where the port stands -/

/-- No full reset is under way and the next data byte is written to the address (R168). -/
def State.Writing (s : State) (a : Addr) : Prop := s.inReset = false ∧ ∃ out, s.port = .data true a out

/-- No full reset is under way and the byte in shift was captured at the address, as `c` (R169). -/
def State.Reading (s : State) (a : Addr) (c : Captured) : Prop := s.inReset = false ∧ s.port = .data false a c

/-- The state after the data byte of a write transfer at an address: the pointer stands at the next address (R168). -/
def State.written (s : State) (a : Addr) : State := { s with port := .data true (a + 1) noByte }

/-- The addresses whose bytes are stored as written and act on nothing: COMMAND_ARG and COMMAND_VALUE (R176), staging
(R53), the actuator page (R6). -/
def storedAsWritten (a : Addr) : Bool :=
  (decide (0x08 ≤ a) && decide (a ≤ 0x0A)) || (decide (0x20 ≤ a) && decide (a ≤ 0x27)) ||
    (decide (0x41 ≤ a) && decide (a ≤ 0x4E))

/-- The range in which a setting or a speed class byte is stored (R177, R178). -/
def storedRange (a : Addr) : Option (Byte × Byte) :=
  if a = 0x18 then some (1, 16)
  else if a = 0x19 ∨ a = 0x1A ∨ a = 0x1B then some (1, 255)
  else if a = 0x1C then some (0, 255)
  else if a = 0x1D then some (0, 15)
  else if a = 0x1E then some (8, 64)
  else if a = 0x5A ∨ a = 0x5E ∨ a = 0x62 ∨ a = 0x66 then some (1, 64)
  else if 0x58 ≤ a ∧ a ≤ 0x67 then some (8, 64)
  else none

/-- The unassigned addresses (R173). -/
def unassigned (a : Addr) : Bool :=
  a == 0x0F || a == 0x17 || (decide (0x2B ≤ a) && decide (a ≤ 0x2F)) || (decide (0x54 ≤ a) && decide (a ≤ 0x57)) ||
    decide (0x68 ≤ a)

/-- The read-only addresses (R173). -/
def readOnly (a : Addr) : Bool :=
  decide (a ≤ 0x01) || a == 0x06 || (decide (0x0B ≤ a) && decide (a ≤ 0x0E)) ||
    (decide (0x10 ≤ a) && decide (a ≤ 0x16)) || a == 0x29 || a == 0x2A || (decide (0x30 ≤ a) && decide (a ≤ 0x39)) ||
    (decide (0x3B ≤ a) && decide (a ≤ 0x3F)) || (decide (0x50 ≤ a) && decide (a ≤ 0x53))

/-! ### What a pass and the legs may change -/

/-- `t` differs from `s` at most in the pool, the legs, the grant, the entries and the flags: every register of the
window that the host stores, the settings, the monitors, the port, the results and the queue are the same. -/
def State.sameOutside (s t : State) : Prop :=
  t = { s with
        slots := t.slots, acceptance := t.acceptance, completion := t.completion, legs := t.legs, grant := t.grant
        acts := t.acts, flags := t.flags }

/-- `t` differs from `s` at most in what a dispatch pass writes: slots, the two lists, legs, the grant, the
ACTIVE_SLOT of entries, and the PRESSING flag. -/
def State.passFrame (s t : State) : Prop :=
  s.sameOutside t ∧ (∀ a, t.act a = { s.act a with activeSlot := (t.act a).activeSlot }) ∧
    (t.flags = s.flags ∨ t.flags = s.flags ||| Flag.pressing.word)

/-! ### Refusals, as their tables give them -/

/-- What refuses a SUBMIT, by the table of R54, or none. -/
def State.submitRefusal (s : State) : Option SubmitResult :=
  if ∀ i, (s.slot i).isFree = false then some .full
  else if s.staging.kind = 0 ∨ 4 < s.staging.kind then some .badKind
  else if s.staging.kind ≠ 4 ∧ ∀ a : ActNo, s.staging.act.toNat = a.val → (s.act a).config.enable ≠ 1 then
    some .noActuator
  else if 3 < s.staging.speed then some .badSpeed
  else if s.staging.kind = 3 ∧ s.staging.arg ≠ 0x0000 ∧ s.staging.arg ≠ 0x0001 then some .badArg
  else if s.staging.kind = 4 ∧ s.staging.flags.getLsbD 0 = true then some .badFlags
  else if s.staging.kind = 1 ∧ ∃ a : ActNo, s.staging.act.toNat = a.val ∧
      (s.staging.arg.toInt < (s.act a).config.min.toInt ∨ (s.act a).config.max.toInt < s.staging.arg.toInt) then
    some .range
  else none

/-- The page holds a value the entry cannot take, by the list of R9. -/
def ActConfig.refused (c : ActConfig) : Prop :=
  c.startWin = 0 ∨ c.stallWin = 0 ∨ c.max.toInt < c.min.toInt ∨ (c.enable ≠ 0 ∧ c.enable ≠ 1) ∨ 6 < c.posLeg ∨
    6 < c.negLeg ∨ (c.enable = 1 ∧ (c.posLeg = 0 ∨ c.negLeg = 0)) ∨ (c.enable = 1 ∧ c.posLeg = c.negLeg)

/-- Another enabled entry has the same two legs, in either order (R10). -/
def State.pairTaken (s : State) (a : ActNo) (c : ActConfig) : Prop :=
  c.enable = 1 ∧ ∃ b, b ≠ a ∧ (s.act b).config.enable = 1 ∧
    (((s.act b).config.posLeg = c.posLeg ∧ (s.act b).config.negLeg = c.negLeg) ∨
      ((s.act b).config.posLeg = c.negLeg ∧ (s.act b).config.negLeg = c.posLeg))

/-- An enabled actuator between these legs would be driven by the claims standing on them (R11). -/
def State.wouldDrive (s : State) (c : ActConfig) : Prop :=
  ∃ p n, legOf c.posLeg = some p ∧ legOf c.negLeg = some n ∧
    (((∃ i, (⟨i, .drive⟩ : Claim) ∈ (s.leg p).claims) ∧ (s.leg n).claims ≠ []) ∨
      ((∃ i, (⟨i, .drive⟩ : Claim) ∈ (s.leg n).claims) ∧ (s.leg p).claims ≠ []))

/-! ### Endings -/

/-- The slot holds the active move of the actuator (R4). -/
def SlotState.runsFor (a : ActNo) : SlotState → Bool
  | .active o _ => o.actuator == a
  | .free | .queued _ | .waiting _ _ | .done _ => false

/-- A slot after its order has ended with the outcome (R44, R52). -/
def SlotState.ended (s : State) (e : Ending) : SlotState → SlotState
  | .queued o => .done (s.recordOf o e)
  | .waiting o _ => .done (s.recordOf o e)
  | .active o m => .done (s.recordOfMove o m e)
  | .free => .free
  | .done r => .done r

/-- `t` is `s` after the orders in the slots `is` have ended in one step, each with its outcome (R44, R43): the slots
are DONE and go from the acceptance order to the tail of the completion order, and the claims, the ACTIVE_SLOT and
the grant of those that were active moves are gone. The legs have not yet reacted. -/
def State.afterEndings (s : State) (e : SlotNo → Ending) (is : List SlotNo) (t : State) : Prop :=
  s.sameOutside t ∧ t.flags = s.flags ∧
    (∀ i, t.slot i = if i ∈ is then (s.slot i).ended s (e i) else s.slot i) ∧
    t.acceptance = s.acceptance.filter (fun i => !is.contains i) ∧ t.completion = s.completion ++ is ∧
    (∀ k, t.leg k =
      { s.leg k with
        claims := (s.leg k).claims.filter fun c => !(is.contains c.slot && (s.slot c.slot).move.isSome) }) ∧
    (∀ a, ((∃ i ∈ is, (s.slot i).runsFor a = true) → t.act a = { s.act a with activeSlot := none }) ∧
      ((∀ i ∈ is, (s.slot i).runsFor a = false) → t.act a = s.act a)) ∧
    t.grant =
      match s.grant with
      | some i => if i ∈ is ∧ (s.slot i).move.isSome = true then none else some i
      | none => none

/-- `t` is `s` after STOP or a cancel has handled the selected orders (R127, R130): the driving moves among them have
entered BRAKING with the outcome, the others but BRAKING moves have ended, and the legs have reacted. -/
def State.afterWithdrawal (s : State) (e : Ending) (p : SlotNo → Bool) (t : State) : Prop :=
  ∃ u w : State, u = { s with slots := u.slots } ∧
    (∀ i, u.slot i =
      if p i then (s.slot i).mapMove fun _ m => if m.phase.driving then s.brake e m else m else s.slot i) ∧
    u.afterEndings (fun _ => e) (s.acceptance.filter fun i => p i && (s.slot i).endsAtOnce) w ∧ t = w.settle

/-- How many of the selected orders STOP or a cancel decides or ends (R127, R130): all but the BRAKING moves. -/
def State.withdrawalCount (s : State) (p : SlotNo → Bool) : Byte :=
  BitVec.ofNat 8 (s.acceptance.countP fun i => p i && !(s.slot i).inPhase (· == .braking))

/-! ### Expiries -/

/-- The expiry of a timer is due: the timer runs in the present phase and has no time left (R87, R29, R120), and the
expiry is addressed to that order (R44) and to that run of the timer, the leg or the restart delay (log 7). -/
def State.expiryDue (s : State) : Instr → Prop
  | .rampExpiry r =>
    ∃ o m, s.slot r.order.slot = .active o m ∧ m.phase = .starting ∧ m.extHeld = false ∧ m.rampTimer = some 0 ∧
      o.serial = r.order.serial ∧ m.rampRun = r.run
  | .windowExpiry r =>
    ∃ o m, s.slot r.order.slot = .active o m ∧ m.phase.driving = true ∧ m.window = some 0 ∧
      o.serial = r.order.serial ∧ m.windowRun = r.run
  | .timeoutExpiry r =>
    ∃ o m, s.slot r.slot = .active o m ∧ m.phase.driving = true ∧ m.timeoutLeft = some 0 ∧ o.serial = r.serial
  | .brakeTimerExpiry r =>
    ∃ o m, s.slot r.slot = .active o m ∧ m.phase = .braking ∧ m.brakeTimer = some 0 ∧ o.serial = r.serial
  | .suspendLimitExpiry r =>
    ∃ o m, s.slot r.order.slot = .active o m ∧ m.phase = .suspended ∧ m.suspendTimer = some 0 ∧
      o.serial = r.order.serial ∧ m.suspendRun = r.run
  | .fenceDelayExpiry r => ∃ o, s.slot r.slot = .waiting o 0 ∧ o.serial = r.serial
  | .deadIntervalEnd r => ∃ d, (s.leg r.leg).state = .brk d 0 ∧ (s.leg r.leg).run = r.run
  | .restartDelayExpiry n => s.supply = .recovering 0 ∧ s.restartRun = n
  | .selnFalling | .headerByte _ | .transferEnd _ | .registerWrite _ | .submit _ | .apply _ | .actSelWrite _
  | .flagsWrite _ | .maskWrite _ | .passlimWrite _ | .warmcapWrite _ | .completionWindowRead | .completionPop
  | .positionRead | .run | .stop | .resume | .cancelAct | .cancelTag | .cancelSlot | .cancelAll | .clearLeg
  | .clearThermal | .setPosition | .motionReset | .unknownCommand _ | .ripplePulse _ | .overCurrent _
  | .holdAsserted | .holdReleased | .supplyOut | .supplyInRange | .warnRise | .warnFall | .shutdownRise
  | .shutdownFall | .fullReset | .resetEnd _ _ _ _ | .outerWindowReentry => False

/-! ### The laws of the pool and of the dispatcher -/

/-- The laws of the two lists (R40, R42, R43): the acceptance order holds exactly the QUEUED and ACTIVE slots, each
once, and the completion order exactly the DONE slots, each once. -/
abbrev State.PoolLaw (s : State) : Prop :=
  s.acceptance.Nodup ∧ s.completion.Nodup ∧
    (∀ i, i ∈ s.acceptance ↔ ((s.slot i).isQueued || (s.slot i).isActive) = true) ∧
    ∀ i, i ∈ s.completion ↔ (s.slot i).isDone = true

/-- An ACTIVE slot holds what its kind takes: a move for a MOVE_TO, MOVE_BY or SEEK_END, a delay for a FENCE (R49). -/
def SlotState.kindFits : SlotState → Bool
  | .active o _ => o.kind != .fence
  | .waiting o _ => o.kind == .fence
  | .free | .queued _ | .done _ => true

/-- Every ACTIVE slot holds what its kind takes (R49). -/
abbrev State.KindLaw (s : State) : Prop := ∀ i, (s.slot i).kindFits = true

/-- The law of ACTIVE_SLOT (R4): it names the slot of the actuator's active move exactly when one exists. -/
abbrev State.ActiveSlotLaw (s : State) : Prop :=
  ∀ a i, (s.act a).activeSlot = some i ↔ (s.slot i).runsFor a = true

/-- The slot holds an active move with the EXT grant (R49). -/
def SlotState.holdsGrant (x : SlotState) : Bool :=
  match x.move with
  | some m => m.extHeld
  | none => false

/-- The law of the EXT grant (R78): it is held by the slot of the one active move that holds it, or by none. -/
abbrev State.GrantLaw (s : State) : Prop := ∀ i, s.grant = some i ↔ (s.slot i).holdsGrant = true

/-! ### The laws of the actuator table -/

/-- An enabled entry stands between two different legs (R9). -/
def ActConfig.wired (c : ActConfig) : Bool :=
  !c.enabled || ((legOf c.posLeg).isSome && (legOf c.negLeg).isSome && c.posLeg != c.negLeg)

/-- The wiring stays usable: every enabled entry has two different legs (R9), and the actuator of every QUEUED or
ACTIVE move order stays enabled (R54, R8). -/
abbrev State.WiringLaw (s : State) : Prop :=
  (∀ a, (s.act a).config.wired = true) ∧
    ∀ a i, (s.slot i).ordersFor a = true → (s.act a).config.enabled = true

/-- The law of pairs (R10): no two enabled actuators have the same unordered pair of legs. -/
abbrev State.PairLaw (s : State) : Prop :=
  ∀ a b, a ≠ b → (s.act a).config.enabled = true → (s.act b).config.enabled = true →
    samePair (s.act a).config (s.act b).config = false

/-- A disabled entry is always UNKNOWN (R18). -/
abbrev State.DisabledLaw (s : State) : Prop :=
  ∀ a, (s.act a).config.enabled = false → (s.act a).valid = false

/-! ### The laws of the legs -/

/-- The leg on which a move of the configuration in the direction holds the claim of the type (R22). -/
def claimLeg (c : ActConfig) (d : Dir) : ClaimType → LegField
  | .drive => driveLeg c d
  | .ret => returnLeg c d

/-- The slot holds an active move whose claim of the type belongs on the leg (R22). -/
def State.owns (s : State) (i : SlotNo) (ty : ClaimType) (k : LegNo) : Bool :=
  match s.slot i with
  | .active o m => legOf (claimLeg (s.config o) m.dir ty) == some k
  | .free | .queued _ | .waiting _ _ | .done _ => false

/-- The law of claims (R22): each active move holds one DRIVE and one RETURN claim, on the two legs of its actuator,
every claim belongs to an active move, and a leg holds each slot at most once. -/
abbrev State.ClaimLaw (s : State) : Prop :=
  (∀ k, ((s.leg k).claims.map Claim.slot).Nodup) ∧
    ∀ k i, ((⟨i, .drive⟩ : Claim) ∈ (s.leg k).claims ↔ s.owns i .drive k = true) ∧
      ((⟨i, .ret⟩ : Claim) ∈ (s.leg k).claims ↔ s.owns i .ret k = true)

/-- A leg that carries a DRIVE claim carries no other claim (R23). -/
abbrev State.DriveLaw (s : State) : Prop := ∀ k, (s.leg k).driven = true → (s.leg k).claims.length = 1

/-- A leg in OFF carries no claim (R34). -/
abbrev State.OffLaw (s : State) : Prop := ∀ k, (s.leg k).state = .off → (s.leg k).claims = []

/-- The laws by which claims stand on the legs: R40 to R43, R49, R4, R9, R22, R23 and R34 together. -/
abbrev State.ClaimLaws (s : State) : Prop :=
  s.PoolLaw ∧ s.KindLaw ∧ s.ActiveSlotLaw ∧ s.WiringLaw ∧ s.ClaimLaw ∧ s.DriveLaw ∧ s.OffLaw

/-- The bystander law (R77): no enabled actuator without an active move has one leg under a DRIVE claim while its
other leg carries any claim. -/
abbrev State.BystanderLaw (s : State) : Prop :=
  ∀ b, (s.act b).bystander = true → s.drivenAcross (s.act b).config = false

/-- The leg state stands at the demand or in a BREAK on the way to it (R26 to R29). -/
def LegState.shows (d : Demand) : LegState → Bool
  | .brk e _ => e == d && d != .float
  | .float => d == .float
  | .low => d == .low
  | .high => d == .high
  | .mod => d == .mod
  | .ext => d == .ext
  | .off => false

/-- Every leg that is not OFF stands at its demand, or in a BREAK that ends in it (R25, R26). -/
abbrev State.DemandLaw (s : State) : Prop :=
  ∀ k, (s.leg k).state = .off ∨ (s.leg k).state.shows (s.demand k) = true

/-! ### The laws of a move -/

/-- What a move record holds by its phase (R86, R87): the outcome and the brake timer in BRAKING alone, the window in
the driving phases alone, the ramp timer in STARTING alone, the suspend limit and hold-pending in SUSPENDED only, and
a move with the EXT grant drives in RUNNING alone (R90). -/
def Move.lawful (m : Move) : Bool :=
  match m.phase with
  | .starting =>
    m.outcome.isNone && m.brakeTimer.isNone && m.window.isSome && m.rampTimer.isSome && m.suspendTimer.isNone &&
      !m.holdPending && !m.extHeld
  | .running =>
    m.outcome.isNone && m.brakeTimer.isNone && m.window.isSome && m.rampTimer.isNone && m.suspendTimer.isNone &&
      !m.holdPending
  | .approaching =>
    m.outcome.isNone && m.brakeTimer.isNone && m.window.isSome && m.rampTimer.isNone && m.suspendTimer.isNone &&
      !m.holdPending && !m.extHeld
  | .braking =>
    m.outcome.isSome && m.brakeTimer.isSome && m.window.isNone && m.rampTimer.isNone && m.suspendTimer.isNone &&
      !m.holdPending
  | .held =>
    m.outcome.isNone && m.brakeTimer.isNone && m.window.isNone && m.rampTimer.isNone && m.suspendTimer.isNone &&
      !m.holdPending
  | .suspended => m.outcome.isNone && m.brakeTimer.isNone && m.window.isNone && m.rampTimer.isNone

/-- The slot's active move, if it holds one, has the property. -/
def SlotState.moveHas (p : Move → Bool) : SlotState → Bool
  | .active _ m => p m
  | .free | .queued _ | .waiting _ _ | .done _ => true

/-- Every active move's record is lawful. -/
abbrev State.MoveLaw (s : State) : Prop := ∀ i, (s.slot i).moveHas Move.lawful = true

/-! ### The laws of the monitors -/

/-- The phase agrees with the hold line (R112, R121): no move drives while it is asserted, none is HELD while it is
released, and hold-pending of a SUSPENDED move follows it. -/
def Move.fitsHold (hold : Bool) (m : Move) : Bool :=
  match m.phase with
  | .starting | .running | .approaching => !hold
  | .held => hold
  | .suspended => m.holdPending == hold
  | .braking => true

/-- A move may be active, in its phase, under the monitors (R112, R118, R121, R136). -/
def State.allows (s : State) (m : Move) : Bool :=
  m.fitsHold s.holdOn && (s.supply == .inRange || m.phase == .suspended) && s.thermal != .shutdown &&
    s.thermal != .cooled

/-- The phases agree with the monitors: with the hold line (R112, R121); while the supply state is not IN every
active move is SUSPENDED (R118); in SHUTDOWN and COOLED no move is active (R136); during a full reset the pool is
empty (R63). -/
abbrev State.MonitorLaw (s : State) : Prop :=
  (∀ i, (s.slot i).moveHas s.allows = true) ∧ (s.inReset = true → ∀ i, s.slot i = .free)

/-- The comparators agree with the thermal state (R137). -/
abbrev State.ThermalLaw (s : State) : Prop :=
  match s.thermal with
  | .normal => s.warnSet = false ∧ s.shutdownSet = false
  | .warm => s.warnSet = true ∧ s.shutdownSet = false
  | .shutdown => s.shutdownSet = true
  | .cooled => s.shutdownSet = false

/-! ### The law of the orders' numbers -/

/-- Every order of the pool has a number below the next one, and no two have the same (log 7). -/
abbrev State.SerialLaw (s : State) : Prop :=
  (∀ i, ((s.slot i).number.all fun n => decide (n < s.serial)) = true) ∧
    ∀ i j, i ≠ j → (s.slot i).number ≠ none → (s.slot i).number ≠ (s.slot j).number

/-! ### The laws of the register window -/

/-- A stored value lies in a range. -/
def within (lo hi v : Byte) : Bool := decide (lo ≤ v) && decide (v ≤ hi)

/-- The global settings lie in their ranges (R177). -/
def Settings.legal (g : Settings) : Bool :=
  within 1 16 g.dead && within 1 255 g.brake && within 1 255 g.ramp && within 1 255 g.restart &&
    within 0 15 g.passLimit && within 8 64 g.warmCap

/-- A speed class lies in its ranges (R178). -/
def SpeedClass.legal (c : SpeedClass) : Bool :=
  within 8 64 c.start && within 8 64 c.run && within 1 64 c.step && within 8 64 c.approach

/-- What the host stored stays in range, and the bits that hold nothing stay 0: settings and classes (R177, R178),
the flags outside bits 1 to 11 (R157), the mask outside bits 0 to 11 (R161). -/
abbrev State.StoreLaw (s : State) : Prop :=
  s.settings.legal = true ∧ (∀ c : ClassNo, s.speeds[c].legal = true) ∧ s.flags &&& ~~~stickyBits = 0 ∧
    s.mask &&& ~~~maskBits = 0

end Sys2Proof.Machine
end

