-- ==== Sys2Proof/Certificates/Slice0/Obligations.lean ====
section
/-! DEFINITION. The statements for the provers. -/

open Sys2Proof Sys2Proof.Machine

/-! ### The step, time and reset -/

/-- A step takes the command at the front of the queue and runs it on the state with the queue's rest. -/
def Obligations.StepTakesFrontCommand : Prop :=
  ∀ (c : Instr) (rest : List Instr) (s : State), s.pending = c :: rest → step s = exec c { s with pending := rest }

/-- On an empty queue with no expiry due, 0.5 us pass: each timer counts down in its own phases alone (R87), driving
time counts up, and nothing else changes. That the step is such a unit of time, and that nothing runs during a full
reset, is the model's choice (log 5). -/
def Obligations.EmptyQueueLetsTimePass : Prop :=
  ∀ s : State, s.pending = [] →
    (s.inReset = true → step s = .next s) ∧
    (s.inReset = false → (∀ c, ¬ s.expiryDue c) → ∃ t, step s = .next t ∧
      t = { s with slots := t.slots, legs := t.legs, supply := t.supply } ∧
      (∀ i o m, s.slot i = .active o m → m.phase.driving = true →
        t.slot i = .active o { m with
          driveTicks := m.driveTicks + 1, timeoutLeft := m.timeoutLeft.map (· - 1)
          rampTimer := if m.phase = .starting then m.rampTimer.map (· - 1) else m.rampTimer
          window := m.window.map (· - 1) }) ∧
      (∀ i o m, s.slot i = .active o m → m.phase = .braking →
        t.slot i = .active o { m with brakeTimer := m.brakeTimer.map (· - 1) }) ∧
      (∀ i o m, s.slot i = .active o m → m.phase = .held → t.slot i = .active o m) ∧
      (∀ i o m, s.slot i = .active o m → m.phase = .suspended →
        t.slot i = .active o { m with suspendTimer := m.suspendTimer.map (· - 1) }) ∧
      (∀ i o n, s.slot i = .waiting o n → t.slot i = .waiting o (n - 1)) ∧
      (∀ i, (s.slot i).isActive = false → t.slot i = s.slot i) ∧
      (∀ k, (t.leg k).claims = (s.leg k).claims ∧ (t.leg k).run = (s.leg k).run) ∧
      (∀ k d n, (s.leg k).state = .brk d n → (t.leg k).state = .brk d (n - 1)) ∧
      (∀ k, (∀ d n, (s.leg k).state ≠ .brk d n) → (t.leg k).state = (s.leg k).state) ∧
      (∀ n, s.supply = .recovering n → t.supply = .recovering (n - 1)) ∧
      ((∀ n, s.supply ≠ .recovering n) → t.supply = s.supply))

/-- On an empty queue with an expiry due, the step takes one of those that are due, as its command acts (R87); with
one alone due it takes that one. That it waits for an empty queue, and that which of several comes first is free, is
the model's choice (log 5, log 6). -/
def Obligations.DueExpiriesAreTaken : Prop :=
  ∀ s : State, s.pending = [] → s.inReset = false → (∃ c, s.expiryDue c) →
    (∃ c, s.expiryDue c ∧ step s = exec c { s with arrivals := s.arrivals + 1 }) ∧
    ∀ c, s.expiryDue c → (∀ d, s.expiryDue d → d = c) → step s = exec c { s with arrivals := s.arrivals + 1 }

/-- FULL_RESET gives every piece of state its full-reset value, and each leg floats without claims (R38). That the queue
and the model's own counters keep what they hold, but for a leg that stops conducting, whose run ends (R149), and that
a reset under way is a state of its own, is the model's choice (log 7, log 9, log 10). -/
def Obligations.FullResetGivesResetValues : Prop :=
  (∀ s : State,
    ∃ t, exec .fullReset s = .next t ∧
      t = { State.reset with
            legs := t.legs, pending := s.pending, arrivals := s.arrivals, serial := s.serial
            restartRun := s.restartRun } ∧
      ∀ k, t.leg k =
        { state := .float, claims := []
          run := if (s.leg k).state.conducting then (s.leg k).run + 1 else (s.leg k).run }) ∧
  (∀ a, State.reset.act a =
    { config :=
        { posLeg := 0, negLeg := 0, enable := 0, min := 0x8000, max := 0x7FFF, openEnd := 0, closeEnd := 0
          approach := 16, startWin := 30, stallWin := 10, strayLimit := 8 }
      position := 0, valid := false, stray := 0, activeSlot := none }) ∧
  (∀ k, State.reset.leg k = { state := .float, claims := [], run := 0 }) ∧
  (∀ i, State.reset.slot i = .free) ∧
  State.reset.acceptance = [] ∧ State.reset.completion = [] ∧
  State.reset.staging =
    { kind := 0, act := 0, arg := 0, speed := 0, timeout := 0, flags := 0, tag := 0 } ∧
  State.reset.submitResult.code = 0x00 ∧ slotOrNone State.reset.assignedSlot = 0xFF ∧ State.reset.slotSel = 0 ∧
  State.reset.actSel = 0 ∧ State.reset.page = (State.reset.act 0).config ∧ State.reset.applyResult.code = 0x00 ∧
  State.reset.running = false ∧ State.reset.grant = none ∧
  State.reset.settings =
    { dead := 4, brake := 10, ramp := 2, restart := 5, suspend := 0, passLimit := 4, warmCap := 40
      autoResume := false } ∧
  State.reset.speeds[(0 : ClassNo)] = { start := 16, run := 32, step := 4, approach := 16 } ∧
  State.reset.speeds[(1 : ClassNo)] = { start := 16, run := 48, step := 4, approach := 20 } ∧
  State.reset.speeds[(2 : ClassNo)] = { start := 24, run := 64, step := 8, approach := 24 } ∧
  State.reset.speeds[(3 : ClassNo)] = { start := 8, run := 24, step := 2, approach := 12 } ∧
  State.reset.supply = .out ∧ State.reset.armed = true ∧ State.reset.flags = 0 ∧ State.reset.mask = 0 ∧
  State.reset.emptyView = false ∧ State.reset.shadowFinal = none ∧ State.reset.shadowDriven = none ∧
  State.reset.shadowPosition = none ∧ State.reset.cmdArg = 0 ∧ State.reset.cmdValue = 0 ∧
  State.reset.cmdResult.code = 0x00 ∧ State.reset.cmdDetail = 0 ∧
  State.reset.peek 0x0D = 0xF0 ∧ State.reset.peek 0x0E = 0x00

/-- The end of a full reset takes the thermal state from the die (R136), the supply monitor from VBR (R145), the hold
state from HOLDN (R147) and the transfer state from SELN (R165), and sets no flag. A restart delay that starts is a new
run (R119; runs are counted by the model, log 7). -/
def Obligations.ResetEndTakesTheMonitors : Prop :=
  ∀ (die : DieAtReset) (vbr : VbrAtReset) (hold seln : Bool) (s : State),
    s.inReset = true → s.supply = .out → s.armed = true →
    ∃ t, exec (.resetEnd die vbr hold seln) s = .next t ∧
      t = { s with
            inReset := false, holdOn := hold, port := if seln then .ignore else .idle, thermal := t.thermal
            warnSet := t.warnSet, shutdownSet := t.shutdownSet, supply := t.supply
            insideOuter := t.insideOuter, armed := t.armed, restartRun := t.restartRun } ∧
      (die = .cool → t.thermal = .normal ∧ t.warnSet = false ∧ t.shutdownSet = false) ∧
      (die = .aboveWarn → t.thermal = .warm ∧ t.warnSet = true ∧ t.shutdownSet = false) ∧
      (die = .aboveShutdown → t.thermal = .shutdown ∧ t.warnSet = true ∧ t.shutdownSet = true) ∧
      (vbr = .outside → t.supply = .out ∧ t.armed = true ∧ t.insideOuter = false ∧ t.restartRun = s.restartRun) ∧
      (vbr = .between → t.supply = .out ∧ t.armed = true ∧ t.insideOuter = true ∧ t.restartRun = s.restartRun) ∧
      (vbr = .reentry →
        t.supply = .recovering (s.settings.restart.toNat * 200000) ∧ t.armed = false ∧ t.insideOuter = true ∧
          t.restartRun = s.restartRun + 1)

/-- Commands that do not arise in the present state change nothing: all but FULL_RESET and RESET_END during a full
reset, RESET_END when none is under way, a row of a written byte while the port does not write its address, a row of a read
byte while no byte captured at its address is in shift, REGISTER_WRITE while no data byte is due, an UNKNOWN_COMMAND
whose code names a command, and framing events out of turn. The rows are the source's; that such a row is dropped is
the model's choice (log 1, log 2, log 3, log 11). -/
def Obligations.CommandsThatDoNotArise : Prop :=
  (∀ (c : Instr) (s : State), s.inReset = true → c ≠ .fullReset → (∀ d v h l, c ≠ .resetEnd d v h l) →
    exec c s = .next s) ∧
  (∀ d v h l (s : State), s.inReset = false → exec (.resetEnd d v h l) s = .next s) ∧
  (∀ (c : Instr) (s : State), c.writeAddrs ≠ [] → (∀ a ∈ c.writeAddrs, ¬ s.Writing a) → exec c s = .next s) ∧
  (∀ s : State, (∀ a c, s.Reading a c → ¬ (0x30 ≤ a ∧ a ≤ 0x38)) → exec .completionWindowRead s = .next s) ∧
  (∀ s : State, (∀ c, ¬ s.Reading 0x39 c) → exec .completionPop s = .next s) ∧
  (∀ s : State, (∀ c, ¬ s.Reading 0x50 c) → exec .positionRead s = .next s) ∧
  (∀ (v : Byte) (s : State), (∀ w a c, s.port ≠ .data w a c) → exec (.registerWrite v) s = .next s) ∧
  (∀ (code : Byte) (s : State), code ∈ commandCodes → exec (.unknownCommand code) s = .next s) ∧
  (∀ s : State, s.port ≠ .idle → exec .selnFalling s = .next s) ∧
  (∀ (b : Byte) (s : State), (∀ st, s.port ≠ .header st) → exec (.headerByte b) s = .next s) ∧
  ∀ (n : Fin 8) (s : State), s.port = .idle → exec (.transferEnd n) s = .next s

/-! ### The serial port -/

/-- SELN_FALLING in IDLE captures the status byte and shifts it out; its bits are the conditions of the part, the
capture changes nothing else, and no event before the end of the header changes the captured byte (R167). -/
def Obligations.SelnFallingCapturesStatusByte : Prop :=
  (∀ s : State, s.inReset = false → s.port = .idle →
    exec .selnFalling s = .next { s with port := .header s.statusByte } ∧
    ({ s with port := .header s.statusByte } : State).sdo = some s.statusByte) ∧
  (∀ s : State,
    s.statusByte.getLsbD 7 = s.attn ∧
    (s.statusByte.getLsbD 6 = true ↔ ∃ k, (s.leg k).state = .off) ∧
    (s.statusByte.getLsbD 5 = true ↔ s.thermal ≠ .normal) ∧
    s.statusByte.getLsbD 4 = s.holdOn ∧
    (s.statusByte.getLsbD 3 = true ↔ s.supply ≠ .inRange) ∧
    (s.statusByte.getLsbD 2 = true ↔ ∀ i, s.slot i ≠ .free) ∧
    (s.statusByte.getLsbD 1 = true ↔ s.completion ≠ []) ∧
    s.statusByte.getLsbD 0 = s.flags.getLsbD 10) ∧
  ∀ (c : Instr) (s t : State) (b : Byte), s.port = .header b → exec c s = .next t →
    t.port = .header b ∨ (∃ h, c = .headerByte h) ∨ (∃ n, c = .transferEnd n) ∨ c = .fullReset ∨
      (s.inReset = true ∧ ∃ d v h l, c = .resetEnd d v h l)

/-- HEADER_BYTE: bit 7 gives the direction and bits 6 to 0 the start address; a read transfer captures its first byte
in the same step (R166), which places 00h in the shadow of 34h or 36h if the empty view is set (R152); a transfer that
ends just after its header has no partial byte (R166). That the mark of the shadow becomes valid at that capture is the
model's choice (log 16). -/
def Obligations.HeaderByteOpensTransfer : Prop :=
  ∀ (st b : Byte) (s : State), s.inReset = false → s.port = .header st →
    (b.getLsbD 7 = true →
      exec (.headerByte b) s = .next { s with port := .data true (b.setWidth 7) noByte }) ∧
    (b.getLsbD 7 = false →
      exec (.headerByte b) s =
        .next { s with
          port := .data false (b.setWidth 7) (s.capture (b.setWidth 7))
          shadowFinal := if s.emptyView ∧ b = 0x34 then some 0 else s.shadowFinal
          shadowDriven := if s.emptyView ∧ b = 0x36 then some 0 else s.shadowDriven }) ∧
    ∀ t, exec (.headerByte b) s = .next t →
      exec (.transferEnd 0) t =
        .next { s with
          port := .idle, shadowFinal := none, shadowDriven := none, shadowPosition := none, emptyView := false }

/-- TRANSFER_END: the port is IDLE, the marks of the shadows and the empty view are gone, and FRAME_ERR is set exactly
when the transfer ends with a partial byte, which has no effect (R158); from IGNORE no byte is partial (R165). -/
def Obligations.TransferEndReturnsToIdle : Prop :=
  (∀ (n : Fin 8) (s : State), s.inReset = false →
    ((∃ b, s.port = .header b) ∨ ∃ w a c, s.port = .data w a c) →
    exec (.transferEnd n) s =
      .next { s with
        port := .idle, shadowFinal := none, shadowDriven := none, shadowPosition := none, emptyView := false
        flags := if n = 0 then s.flags else s.flags ||| 0x0400 }) ∧
  (∀ (n : Fin 8) (s : State), s.inReset = false → s.port = .ignore →
    exec (.transferEnd n) s =
      .next { s with
        port := .idle, shadowFinal := none, shadowDriven := none, shadowPosition := none, emptyView := false }) ∧
  ∀ s : State, s.statusByte.getLsbD 0 = s.flags.getLsbD 10

/-- A byte written to COMMAND_ARG, COMMAND_VALUE, staging or the actuator page is stored as written and read back, and
changes no other stored byte (R6, R53, R176); SLOT_SEL takes 0 to 15 and discards the rest (R61). -/
def Obligations.StoredByteReadsBack : Prop :=
  (∀ (a : Addr) (v : Byte) (s : State), s.Writing a → storedAsWritten a = true →
    ∃ t, exec (.registerWrite v) s = .next t ∧ t.peek a = v ∧
      (∀ b, storedAsWritten b = true → b ≠ a → t.peek b = s.peek b) ∧
      t = { s with
            cmdArg := t.cmdArg, cmdValue := t.cmdValue, staging := t.staging, page := t.page
            port := .data true (a + 1) noByte }) ∧
  ∀ (v : Byte) (s : State), s.Writing 0x3A →
    (∀ i : SlotNo, v.toNat = i.val →
      exec (.registerWrite v) s = .next { s with slotSel := i, port := .data true 0x3B noByte }) ∧
    (16 ≤ v.toNat → exec (.registerWrite v) s = .next (s.written 0x3A))

/-- Every global setting and speed class byte is stored clamped into its range and read back so, and no other of
them changes (R177, R178); OPTIONS stores bit 0 alone. Outside 1Dh and 1Eh nothing else of the part changes. -/
def Obligations.SettingsAreStoredClamped : Prop :=
  (∀ (a : Addr) (v lo hi : Byte) (s : State), s.Writing a → storedRange a = some (lo, hi) →
    ∃ t, exec (.registerWrite v) s = .next t ∧
      t.peek a = (if v < lo then lo else if hi < v then hi else v) ∧
      (∀ b, (storedRange b).isSome = true → b ≠ a → t.peek b = s.peek b) ∧
      t.settings.autoResume = s.settings.autoResume ∧
      (a ≠ 0x1D → a ≠ 0x1E →
        t = { s with settings := t.settings, speeds := t.speeds, port := .data true (a + 1) noByte })) ∧
  ∀ (v : Byte) (s : State), s.Writing 0x1F →
    ∃ t, exec (.registerWrite v) s = .next t ∧ t.peek 0x1F = v &&& 1 ∧
      t = { s with
            settings := { s.settings with autoResume := v.getLsbD 0 }, port := .data true 0x20 noByte }

/-- A byte written to a read-only or an unassigned address changes nothing but the pointer; an unassigned address,
COMMAND and SUBMIT read 00h, APPLY reads the stored result, PART reads C6h and REVISION 01h (R170, R177). -/
def Obligations.DiscardedWritesChangeNothing : Prop :=
  (∀ (a : Addr) (v : Byte) (s : State), s.Writing a → (readOnly a || unassigned a) = true →
    exec (.registerWrite v) s = .next (s.written a)) ∧
  (∀ (a : Addr) (s : State), unassigned a = true → s.peek a = 0) ∧
  ∀ s : State,
    s.peek 0x07 = 0 ∧ s.peek 0x28 = 0 ∧ s.peek 0x4F = s.applyResult.code ∧ s.peek 0x00 = 0xC6 ∧ s.peek 0x01 = 0x01

/-- A data byte of a write transfer has the effect that the owner of its address gives it (R168), and at COMMAND that of
the command its code names (R176). That REGISTER_WRITE, at an address with a row of its own, acts as that row is the
model's choice (log 2). -/
def Obligations.RegisterWriteActsAsItsRow : Prop :=
  ∀ (v : Byte) (s : State),
    (s.Writing 0x02 ∨ s.Writing 0x03 → exec (.registerWrite v) s = exec (.flagsWrite v) s) ∧
    (s.Writing 0x04 ∨ s.Writing 0x05 → exec (.registerWrite v) s = exec (.maskWrite v) s) ∧
    (s.Writing 0x07 → exec (.registerWrite v) s = exec (commandRow v) s) ∧
    (s.Writing 0x1D → exec (.registerWrite v) s = exec (.passlimWrite v) s) ∧
    (s.Writing 0x1E → exec (.registerWrite v) s = exec (.warmcapWrite v) s) ∧
    (s.Writing 0x28 → exec (.registerWrite v) s = exec (.submit v) s) ∧
    (s.Writing 0x40 → exec (.registerWrite v) s = exec (.actSelWrite v) s) ∧
    (s.Writing 0x4F → exec (.registerWrite v) s = exec (.apply v) s)

/-- A data byte of a read transfer ignores SDI (R169): where the read of the address has no effect, only the pointer
moves and the next byte is captured, and elsewhere it is the row of that read (log 3). The byte on SDO is the captured
one (R169); at 03h it may show besides the flags of bits 8 to 11 set since (R157), which is free (log 23). -/
def Obligations.PlainReadAdvances : Prop :=
  ∀ (v : Byte) (a : Addr) (c : Captured) (s : State), s.Reading a c →
    (¬ (0x30 ≤ a ∧ a ≤ 0x39) → a ≠ 0x50 →
      exec (.registerWrite v) s = .next { s with port := .data false (a + 1) (s.capture (a + 1)) }) ∧
    (0x30 ≤ a ∧ a ≤ 0x38 → exec (.registerWrite v) s = exec .completionWindowRead s) ∧
    (a = 0x39 → exec (.registerWrite v) s = exec .completionPop s) ∧
    (a = 0x50 → exec (.registerWrite v) s = exec .positionRead s) ∧
    (a ≠ 0x03 → s.sdo = some c.value) ∧
    (a = 0x03 → s.sdo = some c.value ∨ s.sdo = some (c.value ||| (s.eventFlags >>> 8).setWidth 8)) ∧
    (a = 0x03 → c = s.capture a → s.sdo = some ((s.eventFlags >>> 8).setWidth 8))

/-- The read of 30h to 38h sets the empty view if its byte was captured while the completion order was empty (R152).
The read of 34h, 36h and 50h fills the shadow of its value with the high byte captured with it, and the high byte
captured next is the shadow (R172). While the empty view is set, the capture of 34h or 36h places 00h in its shadow
(R152); that the shadow's mark becomes valid then is the model's choice (log 16). With 34h or 36h the
high byte of the same value is captured (R172); where the shadow is valid already, which differs from it after a removal
and a wrap, 35h or 37h then gives that byte (R172, R179) or the removed record's (R151), and which is free (log 15). -/
def Obligations.ReadsSetViewAndShadow : Prop :=
  (∀ (a : Addr) (c : Captured) (s : State), s.Reading a c → 0x30 ≤ a ∧ a ≤ 0x38 →
    ∃ t, exec .completionWindowRead s = .next t ∧
      t = { s with
            emptyView := s.emptyView || c.empty, shadowFinal := t.shadowFinal, shadowDriven := t.shadowDriven
            port := t.port } ∧
      t.port = .data false (a + 1) (t.capture (a + 1)) ∧
      (a = 0x34 → t.shadowFinal = some c.high) ∧
      (a = 0x33 → s.emptyView = true ∨ c.empty = true → t.shadowFinal = some 0) ∧
      (a ≠ 0x34 → ¬ (a = 0x33 ∧ (s.emptyView = true ∨ c.empty = true)) → t.shadowFinal = s.shadowFinal) ∧
      (a = 0x36 → t.shadowDriven = some c.high) ∧
      (a = 0x35 → s.emptyView = true ∨ c.empty = true → t.shadowDriven = some 0) ∧
      (a ≠ 0x36 → ¬ (a = 0x35 ∧ (s.emptyView = true ∨ c.empty = true)) → t.shadowDriven = s.shadowDriven) ∧
      (∀ i rest r, s.completion = i :: rest → s.slot i = .done r → s.emptyView = false → c.empty = false →
        (a = 0x34 → (t.capture 0x35).value = c.high) ∧
        (a = 0x36 → (t.capture 0x37).value = c.high)) ∧
      (∀ i rest r b, s.completion = i :: rest → s.slot i = .done r → s.emptyView = false → c = s.capture a →
        (a = 0x34 → s.shadowFinal = some b → c.value = r.position.setWidth 8 ∧
          ((t.capture 0x35).value = (r.position >>> 8).setWidth 8 ∨ (t.capture 0x35).value = b)) ∧
        (a = 0x36 → s.shadowDriven = some b → c.value = r.driven.setWidth 8 ∧
          ((t.capture 0x37).value = (r.driven >>> 8).setWidth 8 ∨ (t.capture 0x37).value = b)))) ∧
  (∀ (c : Captured) (s : State), s.Reading 0x50 c →
    ∃ t, exec .positionRead s = .next t ∧ t = { s with shadowPosition := some c.high, port := t.port } ∧
      t.port = .data false 0x51 (t.capture 0x51) ∧ (t.capture 0x51).value = c.high) ∧
  (∀ s : State,
    (s.capture 0x50).value = (s.act s.actSel).position.setWidth 8 ∧
    (s.capture 0x50).high = ((s.act s.actSel).position >>> 8).setWidth 8 ∧
    (s.shadowPosition = none → (s.capture 0x51).value = ((s.act s.actSel).position >>> 8).setWidth 8)) ∧
  (∀ (i : SlotNo) (rest : List SlotNo) (r : Record) (s : State),
    s.completion = i :: rest → s.slot i = .done r → s.emptyView = false →
    (s.capture 0x34).value = r.position.setWidth 8 ∧ (s.capture 0x36).value = r.driven.setWidth 8 ∧
    ((s.capture 0x34).high = (r.position >>> 8).setWidth 8 ∨ s.shadowFinal = some (s.capture 0x34).high) ∧
    ((s.capture 0x36).high = (r.driven >>> 8).setWidth 8 ∨ s.shadowDriven = some (s.capture 0x36).high) ∧
    (∀ b, s.shadowFinal = some b → (s.capture 0x35).value = b) ∧
    (s.shadowFinal = none → (s.capture 0x35).value = (r.position >>> 8).setWidth 8) ∧
    (∀ b, s.shadowDriven = some b → (s.capture 0x37).value = b) ∧
    (s.shadowDriven = none → (s.capture 0x37).value = (r.driven >>> 8).setWidth 8)) ∧
  ∀ (a : Addr) (s : State), 0x30 ≤ a ∧ a ≤ 0x39 →
    ((s.capture a).empty = true ↔ s.completion = []) ∧
    (s.completion = [] ∨ s.emptyView = true → (s.capture a).value = 0 ∧ (s.capture a).high = 0)

/-- The read of 39h removes the head record: its slot leaves the completion order and becomes FREE, and no dispatch
pass follows; with the completion order empty at the capture or at the read, or the empty view set, it removes
nothing (R45, R152, R153). The completion level falls by one for a record with NOTIFY (R156). -/
def Obligations.PopFreesTheHead : Prop :=
  ∀ (c : Captured) (s : State), s.Reading 0x39 c →
    (c.empty = true ∨ s.emptyView = true ∨ s.completion = [] →
      ∃ t, exec .completionPop s = .next t ∧
        t = { s with emptyView := s.emptyView || c.empty, port := .data false 0x3A (s.capture 0x3A) }) ∧
    (∀ i rest, c.empty = false → s.emptyView = false → s.completion = i :: rest →
      ∃ t, exec .completionPop s = .next t ∧
        t = { s with slots := s.slots.set i .free, completion := rest, port := t.port } ∧
        t.port = .data false 0x3A (t.capture 0x3A) ∧ t.slot i = .free ∧ (∀ j, j ≠ i → t.slot j = s.slot j) ∧
        (s.PoolLaw → s.level = t.level + if (s.slot i).notified then 1 else 0))

/-- What the window shows: the head record byte by byte, and zeros while there is none or the empty view is set
(R150, R152); the global state (R175); the counts of slots (R60); the legs (R37); the selected slot in each of its
states (R61); VALIDITY, STRAY and ACTIVE_SLOT of the selected actuator (R3); the results, the assigned slot and the
two selections (R57, R61, R5, R176). The last clauses are the codes: kinds (R47), outcomes (R109), phases (R86), leg
states (R21), thermal and supply states (R174) and results (R7, R54, R176). -/
def Obligations.WindowShowsTheState : Prop :=
  (∀ (i : SlotNo) (rest : List SlotNo) (r : Record) (s : State),
    s.completion = i :: rest → s.slot i = .done r → s.emptyView = false → s.shadowFinal = none →
    s.shadowDriven = none →
    s.peek 0x30 = BitVec.ofNat 8 i.val ∧ s.peek 0x31 = r.tag ∧
    s.peek 0x32 = r.kind.code * 16 + BitVec.ofNat 8 r.actuator.val ∧ s.peek 0x33 = r.outcome.code ∧
    s.peek 0x34 = r.position.setWidth 8 ∧ s.peek 0x35 = (r.position >>> 8).setWidth 8 ∧
    s.peek 0x36 = r.driven.setWidth 8 ∧ s.peek 0x37 = (r.driven >>> 8).setWidth 8 ∧ s.peek 0x38 = r.coast ∧
    s.peek 0x39 = r.driving) ∧
  (∀ (a : Addr) (s : State), 0x30 ≤ a ∧ a ≤ 0x39 → s.completion = [] ∨ s.emptyView = true → s.peek a = 0) ∧
  (∀ s : State,
    s.peek 0x06 =
      (if s.running then 1 else 0) + (if s.holdOn then 2 else 0) + s.supply.code * 4 + s.thermal.code * 16 +
        if s.grant.isSome then 64 else 0) ∧
  (∀ s : State,
    (s.peek 0x0D).toNat =
      16 * min 15 ((List.finRange 16).countP fun i => (s.slot i).isFree) +
        min 15 ((List.finRange 16).countP fun i => (s.slot i).isQueued) ∧
    (s.peek 0x0E).toNat =
      16 * min 15 ((List.finRange 16).countP fun i => (s.slot i).isActive) +
        min 15 ((List.finRange 16).countP fun i => (s.slot i).isDone)) ∧
  (∀ (k : LegNo) (i : SlotNo) (s : State), (s.leg k).claims = [⟨i, .drive⟩] →
    s.peek (0x10 + BitVec.ofNat 7 k.val) = BitVec.ofNat 8 i.val * 16 + 8 + (s.leg k).state.code) ∧
  (∀ (k : LegNo) (s : State), (∀ c ∈ (s.leg k).claims, c.type = .ret) → (s.leg k).claims.length ≤ 5 →
    s.peek (0x10 + BitVec.ofNat 7 k.val) =
      BitVec.ofNat 8 (s.leg k).claims.length * 16 + (s.leg k).state.code) ∧
  (∀ (k : LegNo) (s : State), (s.peek 0x16).getLsbD k.val = true ↔ (s.leg k).state = .off) ∧
  (∀ s : State, (s.peek 0x16).getLsbD 6 = false ∧ (s.peek 0x16).getLsbD 7 = false) ∧
  (∀ s : State, s.slot s.slotSel = .free → ∀ a : Addr, 0x3B ≤ a ∧ a ≤ 0x3F → s.peek a = 0) ∧
  (∀ (o : Order) (s : State), s.slot s.slotSel = .queued o →
    s.peek 0x3B = 0x10 ∧ s.peek 0x3C = o.kind.code * 16 + BitVec.ofNat 8 o.actuator.val ∧ s.peek 0x3D = o.tag ∧
    s.peek 0x3E = 0 ∧ s.peek 0x3F = (if o.ext then 16 else 0) + o.pass.setWidth 8) ∧
  (∀ (o : Order) (n : Nat) (s : State), s.slot s.slotSel = .waiting o n →
    s.peek 0x3B = 0x27 ∧ s.peek 0x3C = o.kind.code * 16 + BitVec.ofNat 8 o.actuator.val ∧ s.peek 0x3D = o.tag ∧
    s.peek 0x3E = 0 ∧ s.peek 0x3F = (if o.ext then 16 else 0) + o.pass.setWidth 8) ∧
  (∀ (r : Record) (s : State), s.slot s.slotSel = .done r →
    s.peek 0x3B = 0x30 ∧ s.peek 0x3C = r.kind.code * 16 + BitVec.ofNat 8 r.actuator.val ∧ s.peek 0x3D = r.tag ∧
    s.peek 0x3E = 0 ∧ s.peek 0x3F = (if r.ext then 16 else 0) + r.pass.setWidth 8) ∧
  (∀ s : State,
    s.peek 0x52 =
      (if (s.act s.actSel).valid then 128 else 0) +
        (if 127 < (s.act s.actSel).stray then 127 else (s.act s.actSel).stray) ∧
    ((s.act s.actSel).activeSlot = none → s.peek 0x53 = 0xFF) ∧
    (∀ i, (s.act s.actSel).activeSlot = some i → s.peek 0x53 = BitVec.ofNat 8 i.val) ∧
    (∀ i, s.assignedSlot = some i → s.peek 0x2A = BitVec.ofNat 8 i.val) ∧
    s.peek 0x0B = s.cmdResult.code ∧ s.peek 0x0C = s.cmdDetail ∧ s.peek 0x3A = BitVec.ofNat 8 s.slotSel.val ∧
    s.peek 0x40 = BitVec.ofNat 8 s.actSel.val) ∧
  (∀ (o : Order) (m : Move) (s : State), s.slot s.slotSel = .active o m →
    s.peek 0x3B = 0x20 + m.phase.code ∧ s.peek 0x3C = o.kind.code * 16 + BitVec.ofNat 8 o.actuator.val ∧
    s.peek 0x3D = o.tag ∧ (m.phase.driving = true → m.extHeld = false → s.peek 0x3E = m.duty) ∧
    (m.phase.driving = false ∨ m.extHeld = true → s.peek 0x3E = 0) ∧
    s.peek 0x3F = (if m.extHeld then 32 else 0) + (if o.ext then 16 else 0) + o.pass.setWidth 8) ∧
  [Kind.moveTo, .moveBy, .seekEnd, .fence].map Kind.code = [1, 2, 3, 4] ∧
  [Ending.done, .endFound, .stalled, .timeout, .cancelled, .stopped, .overcurrent, .thermal, .supply, .range,
    .noReference, .legOff].map Ending.code = [1, 2, 3, 4, 5, 6, 7, 8, 9, 10, 11, 12] ∧
  [Phase.starting, .running, .approaching, .braking, .held, .suspended].map Phase.code = [1, 2, 3, 4, 5, 6] ∧
  [LegState.float, .low, .high, .mod, .ext, .off].map LegState.code = [0, 1, 2, 3, 4, 6] ∧
  (∀ d n, (LegState.brk d n).code = 5) ∧
  [Thermal.normal, .warm, .shutdown, .cooled].map Thermal.code = [0, 1, 2, 3] ∧
  (Supply.inRange.code = 0 ∧ Supply.out.code = 1 ∧ ∀ n, (Supply.recovering n).code = 2) ∧
  [ApplyResult.none, .ok, .busy, .badArg, .pairUsed, .conflict].map ApplyResult.code = [0, 1, 2, 3, 4, 5] ∧
  [SubmitResult.none, .accepted, .full, .badKind, .noActuator, .badSpeed, .badArg, .badFlags, .range].map
    SubmitResult.code = [0, 1, 2, 3, 4, 5, 6, 7, 8] ∧
  [CmdResult.none, .ok, .state, .badArg, .unknown].map CmdResult.code = [0, 1, 2, 3, 4]

/-! ### Flags, mask and attention -/

/-- FLAGS_WRITE: a 1 written clears the sticky flag of its bit, a 0 leaves it, the rest of the part stays, and
LEG_FAULT once clear is set again by an over-current alone (R159). -/
def Obligations.FlagsWriteClearsFlags : Prop :=
  (∀ (v : Byte) (s : State), s.Writing 0x02 →
    ∃ t, exec (.flagsWrite v) s = .next t ∧
      t = { s with flags := t.flags, port := .data true 0x03 noByte } ∧ t.complete = s.complete ∧
      ∀ n, n < 16 →
        t.flags.getLsbD n = (s.flags.getLsbD n && !(decide (1 ≤ n) && decide (n ≤ 7) && v.getLsbD n))) ∧
  (∀ (v : Byte) (s : State), s.Writing 0x03 →
    ∃ t, exec (.flagsWrite v) s = .next t ∧
      t = { s with flags := t.flags, port := .data true 0x04 noByte } ∧ t.complete = s.complete ∧
      ∀ n, n < 16 →
        t.flags.getLsbD n =
          (s.flags.getLsbD n && !(decide (8 ≤ n) && decide (n ≤ 11) && v.getLsbD (n - 8)))) ∧
  ∀ (c : Instr) (s t : State), exec c s = .next t → s.flags.getLsbD 1 = false → t.flags.getLsbD 1 = true →
    ∃ r, c = .overCurrent r

/-- MASK_WRITE: bits 0 to 11 hold what the host writes and read it back, bits 12 to 15 read 0, each byte takes effect
by itself, and no flag changes (R161). -/
def Obligations.MaskWriteStoresTheMask : Prop :=
  (∀ (v : Byte) (s : State), s.Writing 0x04 →
    ∃ t, exec (.maskWrite v) s = .next t ∧ t = { s with mask := t.mask, port := .data true 0x05 noByte } ∧
      t.peek 0x04 = v ∧
      ∀ n, n < 16 →
        t.mask.getLsbD n =
          if n < 8 then v.getLsbD n else if n < 12 then s.mask.getLsbD n else false) ∧
  ∀ (v : Byte) (s : State), s.Writing 0x05 →
    ∃ t, exec (.maskWrite v) s = .next t ∧ t = { s with mask := t.mask, port := .data true 0x06 noByte } ∧
      t.peek 0x05 = v &&& 0x0F ∧
      ∀ n, n < 16 →
        t.mask.getLsbD n =
          if n < 8 then s.mask.getLsbD n else if n < 12 then v.getLsbD (n - 8) else false

/-- ATTN is asserted exactly while a bit position holds 1 in both the event flags and the mask (R162); bit 0 of the
event flags is COMPLETE, which reads 1 while a record with NOTIFY waits (R156), and the others are the sticky flags
(R157); status bit 7 shows ATTN. -/
def Obligations.AttnShowsSelectedFlags : Prop :=
  ∀ s : State, s.StoreLaw →
    (s.attn = true ↔ ∃ n, n < 16 ∧ s.eventFlags.getLsbD n = true ∧ s.mask.getLsbD n = true) ∧
    (s.eventFlags.getLsbD 0 = true ↔ ∃ i ∈ s.completion, (s.slot i).notified = true) ∧
    (∀ n, 1 ≤ n → s.eventFlags.getLsbD n = s.flags.getLsbD n) ∧
    s.statusByte.getLsbD 7 = s.attn ∧
    s.peek 0x02 = s.eventFlags.setWidth 8 ∧ s.peek 0x03 = (s.eventFlags >>> 8).setWidth 8

/-! ### Writes with an effect at once -/

/-- ACT_SEL_WRITE: 0 to 7 selects the entry and loads the page from it, above 7 is discarded, and the APPLY result
stays; after full reset ACT_SEL is 0 and the page holds the configuration of A0; motion reset leaves both (R5). -/
def Obligations.ActSelWriteLoadsThePage : Prop :=
  (∀ (v : Byte) (s : State), s.Writing 0x40 →
    (∀ a : ActNo, v.toNat = a.val →
      exec (.actSelWrite v) s =
        .next { s with actSel := a, page := (s.act a).config, port := .data true 0x41 noByte }) ∧
    (8 ≤ v.toNat → exec (.actSelWrite v) s = .next (s.written 0x40))) ∧
  (∀ s t : State, exec .fullReset s = .next t → t.actSel = 0 ∧ t.page = (t.act 0).config) ∧
  ∀ s t : State, exec .motionReset s = .next t → t.actSel = s.actSel ∧ t.page = s.page

/-- PASSLIM_WRITE stores the limit, above 15 as 15, and sets PRESSING exactly if a QUEUED move order presses that did
not (R81). WARMCAP_WRITE stores the cap within 8 to 64; while the state is WARM the current duty of every driving
move without the EXT grant becomes the lesser of its phase duty and the cap, and the legs react (R94, R95). -/
def Obligations.LimitAndCapWrites : Prop :=
  (∀ (v p : Byte) (s : State), s.Writing 0x1D → p = (if 15 < v then 15 else v) →
    ∃ t, exec (.passlimWrite v) s = .next t ∧
      t = { s with
            settings := { s.settings with passLimit := p }, flags := t.flags, port := .data true 0x1E noByte } ∧
      ((∃ i o, s.slot i = .queued o ∧ o.kind ≠ .fence ∧ (p ≠ 0 ∧ p.toNat ≤ o.pass.toNat) ∧
          ¬ (s.settings.passLimit ≠ 0 ∧ s.settings.passLimit.toNat ≤ o.pass.toNat)) →
        t.flags = s.flags ||| 0x0800) ∧
      ((∀ i o, s.slot i = .queued o → o.kind ≠ .fence → p ≠ 0 ∧ p.toNat ≤ o.pass.toNat →
          s.settings.passLimit ≠ 0 ∧ s.settings.passLimit.toNat ≤ o.pass.toNat) →
        t.flags = s.flags)) ∧
  ∀ (v w : Byte) (s : State), s.Writing 0x1E → w = (if v < 8 then 8 else if 64 < v then 64 else v) →
    (s.thermal ≠ .warm →
      exec (.warmcapWrite v) s =
        .next { s with settings := { s.settings with warmCap := w }, port := .data true 0x1F noByte }) ∧
    (s.thermal = .warm →
      ∃ u : State, u = { s with settings := { s.settings with warmCap := w }, slots := u.slots } ∧
        (∀ i o m, s.slot i = .active o m → m.phase.driving = true → m.extHeld = false →
          u.slot i = .active o { m with duty := if w < m.phaseDuty then w else m.phaseDuty }) ∧
        (∀ i o m, s.slot i = .active o m → m.phase.driving = true → m.extHeld = true →
          u.slot i = .active o { m with duty := m.phaseDuty }) ∧
        (∀ i o m, s.slot i = .active o m → m.phase.driving = false → u.slot i = s.slot i) ∧
        (∀ i, (s.slot i).move = none → u.slot i = s.slot i) ∧
        exec (.warmcapWrite v) s = .next (u.settle.written 0x1E))

/-- A refused SUBMIT stores the refusal code, sets ASSIGNED_SLOT to FFh and changes nothing else, so no slot, list or
order record, and causes no pass; a write to 2Ah is discarded; after full reset ASSIGNED_SLOT is FFh; motion reset
leaves the result and ASSIGNED_SLOT, and frees the slot it names (R58). The refusals are the table of R54. -/
def Obligations.SubmitRefusedChangesNothing : Prop :=
  (∀ (v : Byte) (r : SubmitResult) (s : State), s.Writing 0x28 → s.submitRefusal = some r →
    exec (.submit v) s =
      .next { s with submitResult := r, assignedSlot := none, port := .data true 0x29 noByte }) ∧
  (∀ s : State, s.peek 0x29 = s.submitResult.code ∧ (s.assignedSlot = none → s.peek 0x2A = 0xFF)) ∧
  (∀ (v : Byte) (s : State), s.Writing 0x2A → exec (.registerWrite v) s = .next (s.written 0x2A)) ∧
  (∀ s t : State, exec .fullReset s = .next t → t.peek 0x2A = 0xFF) ∧
  ∀ s t : State, s.Writing 0x07 → exec .motionReset s = .next t →
    t.submitResult = s.submitResult ∧ t.assignedSlot = s.assignedSlot ∧
      ∀ i, s.assignedSlot = some i → t.slot i = .free

/-- An accepted SUBMIT takes the lowest-numbered FREE slot, fills the order record from staging with PASS 0, puts the
slot at the tail of the acceptance order, shows ACCEPTED and the slot, and a dispatch pass follows (R46, R57).
The order's number is the model's own (log 7). -/
def Obligations.SubmitAcceptedQueuesTheOrder : Prop :=
  ∀ (v : Byte) (s : State), s.Writing 0x28 → s.submitRefusal = none →
    ∃ (i : SlotNo) (o : Order), s.slot i = .free ∧ (∀ j, j < i → s.slot j ≠ .free) ∧
      o.kind.code = s.staging.kind ∧ (o.kind = .fence → o.actuator = 0) ∧
      (o.kind ≠ .fence → o.actuator.val = s.staging.act.toNat) ∧ o.arg = s.staging.arg ∧
      o.speed.val = s.staging.speed.toNat ∧ o.timeout = s.staging.timeout ∧
      o.ext = s.staging.flags.getLsbD 0 ∧ o.notify = s.staging.flags.getLsbD 1 ∧ o.tag = s.staging.tag ∧
      o.pass = 0 ∧ o.serial = s.serial ∧
      exec (.submit v) s =
        .next (({ s with
          slots := s.slots.set i (.queued o), acceptance := s.acceptance ++ [i]
          submitResult := .accepted, assignedSlot := some i, serial := s.serial + 1 } : State).dispatch.written 0x28)

/-- A refused APPLY stores its result and changes nothing else; the checks are made in the order of R7, as R8 to R11
give them. -/
def Obligations.ApplyRefusedChangesNothing : Prop :=
  ∀ (v : Byte) (r : ApplyResult) (s : State), s.Writing 0x4F →
    ((∃ i, (s.slot i).ordersFor s.actSel = true) ∧ r = .busy) ∨
      ((∀ i, (s.slot i).ordersFor s.actSel = false) ∧ s.page.refused ∧ r = .badArg) ∨
      ((∀ i, (s.slot i).ordersFor s.actSel = false) ∧ ¬ s.page.refused ∧ s.pairTaken s.actSel s.page ∧
        r = .pairUsed) ∨
      ((∀ i, (s.slot i).ordersFor s.actSel = false) ∧ ¬ s.page.refused ∧ ¬ s.pairTaken s.actSel s.page ∧
        s.page.enable = 1 ∧ s.wouldDrive s.page ∧ r = .conflict) →
    exec (.apply v) s = .next { s with applyResult := r, port := .data true 0x50 noByte }

/-- An APPLY that passes every check copies the page into the entry, makes it UNKNOWN with STRAY 0 if its legs or
ENABLE changed and keeps its live fields otherwise, stores OK, and a dispatch pass follows (R12). -/
def Obligations.ApplyAcceptedCopiesThePage : Prop :=
  ∀ (v : Byte) (s : State), s.Writing 0x4F → (∀ i, (s.slot i).ordersFor s.actSel = false) → ¬ s.page.refused →
    ¬ s.pairTaken s.actSel s.page → ¬ (s.page.enable = 1 ∧ s.wouldDrive s.page) →
    ∃ e : Actuator,
      (((s.act s.actSel).config.posLeg = s.page.posLeg ∧ (s.act s.actSel).config.negLeg = s.page.negLeg ∧
          (s.act s.actSel).config.enable = s.page.enable) →
        e = { s.act s.actSel with config := s.page }) ∧
      (¬ ((s.act s.actSel).config.posLeg = s.page.posLeg ∧ (s.act s.actSel).config.negLeg = s.page.negLeg ∧
          (s.act s.actSel).config.enable = s.page.enable) →
        e = { s.act s.actSel with config := s.page, valid := false, stray := 0 }) ∧
      exec (.apply v) s =
        .next (({ s with applyResult := .ok, acts := s.acts.set s.actSel e } : State).dispatch.written 0x4F)

/-! ### The commands of COMMAND -/

/-- SET_POSITION: refused with BAD_ARG above 7, with STATE for a disabled entry or one with an active move; otherwise
POSITION takes COMMAND_VALUE, the entry is VALID and STRAY is 0; queued orders do not block it, and no flag changes
and no pass follows (R18). -/
def Obligations.SetPositionPlacesTheActuator : Prop :=
  ∀ s : State, s.Writing 0x07 →
    (8 ≤ s.cmdArg.toNat →
      exec .setPosition s = .next { s with cmdResult := .badArg, port := .data true 0x08 noByte }) ∧
    ∀ a : ActNo, s.cmdArg.toNat = a.val →
      ((s.act a).config.enable ≠ 1 ∨ (s.act a).activeSlot ≠ none →
        exec .setPosition s = .next { s with cmdResult := .state, port := .data true 0x08 noByte }) ∧
      ((s.act a).config.enable = 1 → (s.act a).activeSlot = none →
        exec .setPosition s =
          .next { s with
            acts := s.acts.set a { s.act a with position := s.cmdValue, valid := true, stray := 0 }
            cmdResult := .ok, port := .data true 0x08 noByte })

/-- RUN puts the dispatcher in RUN with OK and makes a pass (R66); CLEAR_THERMAL in COOLED makes the state WARM or
NORMAL by the warn comparator, with OK and a pass, and elsewhere answers STATE (R142; with no move active, as
`State.MonitorLaw` has it in COOLED); a code that names no command answers UNKNOWN and changes nothing (R176). -/
def Obligations.RunClearThermalAndUnknown : Prop :=
  (∀ s : State, s.Writing 0x07 →
    exec .run s = .next (({ s with running := true, cmdResult := .ok } : State).dispatch.written 0x07)) ∧
  (∀ s : State, s.Writing 0x07 → s.thermal = .cooled → s.MonitorLaw → s.DemandLaw →
    exec .clearThermal s =
      .next (({ s with thermal := if s.warnSet then .warm else .normal, cmdResult := .ok } : State).dispatch.written
        0x07)) ∧
  (∀ s : State, s.Writing 0x07 → s.thermal ≠ .cooled →
    exec .clearThermal s = .next { s with cmdResult := .state, port := .data true 0x08 noByte }) ∧
  ∀ (code : Byte) (s : State), s.Writing 0x07 → code ∉ commandCodes →
    exec (.unknownCommand code) s = .next { s with cmdResult := .unknown, port := .data true 0x08 noByte }

/-- STOP puts the dispatcher in STOPPED; driving moves enter BRAKING with STOPPED, HELD and SUSPENDED moves and
waiting fences end at once with STOPPED, BRAKING moves and QUEUED orders stay, RESULT_DETAIL counts the orders
decided or ended, and the pass that follows does nothing (R67, R127). -/
def Obligations.StopEndsActiveOrders : Prop :=
  ∀ s : State, s.Writing 0x07 → s.PoolLaw →
    ∃ t, ({ s with running := false } : State).afterWithdrawal .stopped (fun i => (s.slot i).isActive) t ∧
      exec .stop s =
        .next { t with
          cmdResult := .ok, cmdDetail := s.withdrawalCount fun i => (s.slot i).isActive
          port := .data true 0x08 noByte }

/-- RESUME: refused with STATE while the supply state is not IN; otherwise each SUSPENDED move becomes HELD if
hold-pending is set, else returns to driving by R89, and times out at once if it has no timeout left (R115; log 19), the
count goes to RESULT_DETAIL, and a pass follows (R121, R122). -/
def Obligations.ResumeReturnsSuspendedMoves : Prop :=
  ∀ s : State, s.Writing 0x07 →
    (s.supply ≠ .inRange →
      exec .resume s = .next { s with cmdResult := .state, port := .data true 0x08 noByte }) ∧
    (s.supply = .inRange →
      ∃ u w : State, u = { s with slots := u.slots } ∧ w = { u.settle with slots := w.slots } ∧
        (∀ i, (s.slot i).inPhase (· == .suspended) = false → u.slot i = s.slot i ∧ w.slot i = s.slot i) ∧
        (∀ i o m, s.slot i = .active o m → m.phase = .suspended → m.holdPending = true →
          u.slot i = .active o { m with phase := .held, holdPending := false, suspendTimer := none } ∧
          w.slot i = u.slot i) ∧
        (∀ i o m n, s.slot i = .active o m → m.phase = .suspended → m.holdPending = false →
          n = s.reenter o { m with suspendTimer := none } →
          u.slot i = .active o n ∧
          (n.phase.driving = true → n.timeoutLeft = some 0 → w.slot i = .active o (s.timeOut o n)) ∧
          (n.phase.driving = false ∨ n.timeoutLeft ≠ some 0 → w.slot i = .active o n)) ∧
        exec .resume s =
          .next (({ w.settle with
            cmdResult := .ok
            cmdDetail :=
              BitVec.ofNat 8 ((List.finRange 16).countP fun i => (s.slot i).inPhase (· == .suspended)) } :
            State).dispatch.written 0x07))

/-- The cancels: CANCEL_ACT refuses an actuator above 7 and CANCEL_SLOT a slot above 15 with BAD_ARG; otherwise the
matched orders (R129) are handled by R130 with CANCELLED, RESULT_DETAIL counts them, and a pass follows if at least
one order ended at once. -/
def Obligations.CancelsWithdrawMatchedOrders : Prop :=
  ∀ s : State, s.Writing 0x07 → s.PoolLaw →
    (8 ≤ s.cmdArg.toNat →
      exec .cancelAct s = .next { s with cmdResult := .badArg, port := .data true 0x08 noByte }) ∧
    (16 ≤ s.cmdArg.toNat →
      exec .cancelSlot s = .next { s with cmdResult := .badArg, port := .data true 0x08 noByte }) ∧
    ∀ (c : Instr) (p : SlotNo → Bool),
      (c = .cancelAct ∧ ∃ a : ActNo, s.cmdArg.toNat = a.val ∧ ∀ i, p i = (s.slot i).ordersFor a) ∨
        (c = .cancelTag ∧ ∀ i, p i = true ↔ ∃ o, (s.slot i).order = some o ∧ o.tag = s.cmdArg) ∨
        (c = .cancelSlot ∧ ∃ j : SlotNo, s.cmdArg.toNat = j.val ∧ ∀ i, p i = (i == j)) ∨
        (c = .cancelAll ∧ ∀ i, p i = true) →
      ∃ t, s.afterWithdrawal .cancelled p t ∧
        ((∃ i ∈ s.acceptance, (p i && (s.slot i).endsAtOnce) = true) →
          exec c s =
            .next (({ t with cmdResult := .ok, cmdDetail := s.withdrawalCount p } : State).dispatch.written 0x07)) ∧
        ((∀ i ∈ s.acceptance, (p i && (s.slot i).endsAtOnce) = false) →
          exec c s =
            .next (({ t with cmdResult := .ok, cmdDetail := s.withdrawalCount p } : State).written 0x07))

/-- CLEAR_LEG: BAD_ARG with bit 6 or 7 of the mask set, and nothing changes; otherwise OK, each leg named that is OFF
becomes FLOAT, every other leg stays, RESULT_DETAIL is the number cleared, no flag changes, and a pass follows, also
when no leg was cleared (R36). -/
def Obligations.ClearLegReturnsLatchedLegs : Prop :=
  ∀ s : State, s.Writing 0x07 →
    (s.cmdArg.getLsbD 6 = true ∨ s.cmdArg.getLsbD 7 = true →
      exec .clearLeg s = .next { s with cmdResult := .badArg, port := .data true 0x08 noByte }) ∧
    (s.cmdArg.getLsbD 6 = false → s.cmdArg.getLsbD 7 = false →
      ∃ u : State, u = { s with
                legs := u.legs, cmdResult := .ok
                cmdDetail := BitVec.ofNat 8 ((List.finRange 6).countP fun (k : LegNo) =>
                  s.cmdArg.getLsbD k.val && ((s.leg k).state == LegState.off)) } ∧
        (∀ k, s.cmdArg.getLsbD k.val = true → (s.leg k).state = .off →
          u.leg k = { s.leg k with state := .float }) ∧
        (∀ k, s.cmdArg.getLsbD k.val = false ∨ (s.leg k).state ≠ .off → u.leg k = s.leg k) ∧
        exec .clearLeg s = .next (u.dispatch.written 0x07))

/-- MOTION_RESET empties the pool, the claims and the grant, floats every leg that is not OFF, stops the dispatcher,
makes each actuator with an active move UNKNOWN, setting POSITION_LOST if one had been VALID, counts the slots that
were not FREE, and keeps everything else; no pass follows (R20, R39, R64, R133, R164). A leg that stops conducting
ends its run, so a detection made before is lost (R149; runs are counted by the model, log 7). -/
def Obligations.MotionResetDiscardsTheFlight : Prop :=
  ∀ s : State, s.Writing 0x07 →
    ∃ t, exec .motionReset s = .next t ∧
      t = { s with
            slots := t.slots, acceptance := [], completion := [], legs := t.legs, grant := none, running := false
            acts := t.acts, flags := t.flags, cmdResult := .ok
            cmdDetail := BitVec.ofNat 8 ((List.finRange 16).countP fun i => !(s.slot i).isFree)
            port := .data true 0x08 noByte } ∧
      (∀ i, t.slot i = .free) ∧
      (∀ k, t.leg k =
        { state := if (s.leg k).state = .off then .off else .float, claims := []
          run := if (s.leg k).state.conducting then (s.leg k).run + 1 else (s.leg k).run }) ∧
      (∀ a, (s.act a).activeSlot = none → t.act a = s.act a) ∧
      (∀ a, (s.act a).activeSlot ≠ none → t.act a = { s.act a with valid := false, activeSlot := none }) ∧
      ((∃ a, (s.act a).activeSlot ≠ none ∧ (s.act a).valid = true) → t.flags = s.flags ||| 0x0200) ∧
      ((∀ a, (s.act a).activeSlot ≠ none → (s.act a).valid = false) → t.flags = s.flags)

/-! ### Ripple pulses -/

/-- A pulse of a disabled entry, and one after END_FOUND while braking, change nothing (R13); a pulse without an active
move is a stray pulse: STRAY rises, POSITION stays, and at the limit a VALID position becomes UNKNOWN with
POSITION_LOST set (R15). -/
def Obligations.StrayPulseCountsStray : Prop :=
  ∀ (a : ActNo) (s : State), s.inReset = false →
    ((s.act a).config.enable ≠ 1 → exec (.ripplePulse a) s = .next s) ∧
    (∀ i o m, (s.act a).config.enable = 1 → (s.act a).activeSlot = some i → s.slot i = .active o m →
      m.phase = .braking → m.outcome = some .endFound → exec (.ripplePulse a) s = .next s) ∧
    (∀ n, (s.act a).config.enable = 1 → (s.act a).activeSlot = none →
      n = (if (s.act a).stray = 255 then 255 else (s.act a).stray + 1) →
      ((s.act a).valid = true ∧ (s.act a).config.strayLimit ≠ 0 ∧ (s.act a).config.strayLimit ≤ n →
        exec (.ripplePulse a) s =
          .next { s with
            acts := s.acts.set a { s.act a with stray := n, valid := false }, flags := s.flags ||| 0x0200 }) ∧
      (¬ ((s.act a).valid = true ∧ (s.act a).config.strayLimit ≠ 0 ∧ (s.act a).config.strayLimit ≤ n) →
        exec (.ripplePulse a) s = .next { s with acts := s.acts.set a { s.act a with stray := n } }))

/-- A driven or coast pulse moves POSITION one count in the move's direction, held at the end of the range with the
actuator UNKNOWN and POSITION_LOST set (R14, R16). A coast pulse raises the coast count alone. A driven pulse raises
the driven count, restarts the stall window (as a new run, log 7), and at the target decides DONE and brakes; short of it, a move in
STARTING or RUNNING without the EXT grant enters APPROACHING within APPROACH of the target (R93, R96, R97). -/
def Obligations.MovePulseCounts : Prop :=
  ∀ (a : ActNo) (i : SlotNo) (o : Order) (m n : Move) (p : Half) (u : State) (s : State),
    s.inReset = false → (s.act a).config.enable = 1 → (s.act a).activeSlot = some i → s.slot i = .active o m →
    o.actuator = a →
    p = (match m.dir with
      | .opening => if (s.act a).position = 0x7FFF then 0x7FFF else (s.act a).position + 1
      | .closing => if (s.act a).position = 0x8000 then 0x8000 else (s.act a).position - 1) →
    u = (if (m.dir = .opening ∧ (s.act a).position = 0x7FFF) ∨ (m.dir = .closing ∧ (s.act a).position = 0x8000) then
          { s with
            acts := s.acts.set a { s.act a with position := p, valid := false }, flags := s.flags ||| 0x0200 }
        else { s with acts := s.acts.set a { s.act a with position := p } }) →
    n = { m with
          driven := if m.driven = 0xFFFF then 0xFFFF else m.driven + 1, firstSeen := true
          window := some ((s.act a).config.stallWin.toNat * 20000), windowRun := m.windowRun + 1 } →
    (m.phase.driving = false → ¬ (m.phase = .braking ∧ m.outcome = some .endFound) →
      exec (.ripplePulse a) s =
        .next (u.setSlot i (.active o { m with coast := if m.coast = 255 then 255 else m.coast + 1 }))) ∧
    (∀ g, m.phase.driving = true → m.target = some g →
      (m.dir = .opening ∧ g ≤ p.toInt) ∨ (m.dir = .closing ∧ p.toInt ≤ g) →
      exec (.ripplePulse a) s =
        .next (u.setSlot i (.active o { n with
          outcome := some .done, phase := .braking, window := none, rampTimer := none
          brakeTimer := some (s.settings.brake.toNat * 20000) })).settle) ∧
    (∀ g, m.phase = .starting ∨ m.phase = .running → m.extHeld = false → m.target = some g →
      ¬ ((m.dir = .opening ∧ g ≤ p.toInt) ∨ (m.dir = .closing ∧ p.toInt ≤ g)) →
      (g - p.toInt).natAbs ≤ (s.act a).config.approach.toNat →
      exec (.ripplePulse a) s =
        .next (u.setSlot i (.active o { n with
          phase := .approaching, rampTimer := none, duty := s.capped m.snapshot.approach })).settle) ∧
    (m.phase.driving = true →
      (∀ g, m.target = some g → ¬ ((m.dir = .opening ∧ g ≤ p.toInt) ∨ (m.dir = .closing ∧ p.toInt ≤ g))) →
      (m.phase = .approaching ∨ m.extHeld = true ∨ m.target = none ∨
        ∀ g, m.target = some g → (s.act a).config.approach.toNat < (g - p.toInt).natAbs) →
      exec (.ripplePulse a) s = .next (u.setSlot i (.active o n)).settle)

/-! ### Timers of an order -/

/-- RAMP_EXPIRY in STARTING adds the ramp step, held at the run duty; at the run duty the move is RUNNING and the ramp
timer stops, otherwise a new interval starts; the current duty follows (R91, R94). TIMEOUT_EXPIRY in a driving phase
of a move with a timeout decides TIMEOUT and brakes, with driving time TIMEOUT x 100 ms (R101, R103; log 8). Out of
their phases both are dropped, and so is a ramp expiry of another run of the timer (R87; that a run is known by a
number is the model's choice, log 7). -/
def Obligations.RampAndTimeoutExpiry : Prop :=
  (∀ (i : SlotNo) (o : Order) (m : Move) (l : Nat) (s : State), s.inReset = false → s.slot i = .active o m →
    m.phase = .starting → m.extHeld = false → l = m.rampLevel.toNat + m.snapshot.step.toNat →
    (l < m.snapshot.run.toNat →
      exec (.rampExpiry ⟨⟨i, o.serial⟩, m.rampRun⟩) s =
        .next (s.setSlot i (.active o { m with
          rampLevel := BitVec.ofNat 8 l, rampTimer := some (s.settings.ramp.toNat * 20000), rampRun := m.rampRun + 1
          duty := s.capped (BitVec.ofNat 8 l) })).settle) ∧
    (m.snapshot.run.toNat ≤ l →
      exec (.rampExpiry ⟨⟨i, o.serial⟩, m.rampRun⟩) s =
        .next (s.setSlot i (.active o { m with
          rampLevel := m.snapshot.run, rampTimer := none, phase := .running
          duty := s.capped m.snapshot.run })).settle)) ∧
  (∀ (i : SlotNo) (o : Order) (m : Move) (s : State), s.inReset = false → s.slot i = .active o m →
    m.phase.driving = true → m.timeoutLeft ≠ none →
    exec (.timeoutExpiry ⟨i, o.serial⟩) s =
      .next (s.setSlot i (.active o { m with
        outcome := some .timeout, phase := .braking, window := none, rampTimer := none, timeoutLeft := some 0
        driveTicks := o.timeout.toNat * 200000, brakeTimer := some (s.settings.brake.toNat * 20000) })).settle) ∧
  (∀ (i : SlotNo) (n k : Nat) (s : State), s.DemandLaw →
    ((s.slot i).inPhase (· == .starting) = false → exec (.rampExpiry ⟨⟨i, n⟩, k⟩) s = .next s) ∧
    ((s.slot i).inPhase Phase.driving = false → exec (.timeoutExpiry ⟨i, n⟩) s = .next s)) ∧
  ∀ (r : TimerRef) (s : State), (∀ o m, s.slot r.order.slot = .active o m → m.rampRun ≠ r.run) →
    exec (.rampExpiry r) s = .next s

/-- WINDOW_EXPIRY in a driving phase: a SEEK_END decides END_FOUND and the entry takes its end value, VALID and STRAY 0
(R19, R99); a MOVE_TO or MOVE_BY decides STALLED and its entry stays as it is (R100); both brake. In any other phase
it is dropped (R87), and so is one of another run of the window: a pulse taken first restarted it (R17, R102; that a
run is known by a number is the model's choice, log 7). -/
def Obligations.WindowExpiryDecides : Prop :=
  (∀ (i : SlotNo) (o : Order) (m n : Move) (s : State), s.inReset = false → s.slot i = .active o m →
    m.phase.driving = true →
    n = { m with
          phase := .braking, window := none, rampTimer := none
          brakeTimer := some (s.settings.brake.toNat * 20000) } →
    (o.kind = .seekEnd → ∀ e, e = (if o.arg = 1 then (s.act o.actuator).config.openEnd
        else (s.act o.actuator).config.closeEnd) →
      exec (.windowExpiry ⟨⟨i, o.serial⟩, m.windowRun⟩) s =
        .next ((s.setAct o.actuator { s.act o.actuator with position := e, valid := true, stray := 0 }).setSlot i
          (.active o { n with outcome := some .endFound })).settle) ∧
    (o.kind ≠ .seekEnd →
      exec (.windowExpiry ⟨⟨i, o.serial⟩, m.windowRun⟩) s =
        .next (s.setSlot i (.active o { n with outcome := some .stalled })).settle)) ∧
  (∀ (i : SlotNo) (n k : Nat) (s : State), (s.slot i).inPhase Phase.driving = false →
    exec (.windowExpiry ⟨⟨i, n⟩, k⟩) s = .next s) ∧
  ∀ (r : TimerRef) (s : State), (∀ o m, s.slot r.order.slot = .active o m → m.windowRun ≠ r.run) →
    exec (.windowExpiry r) s = .next s

/-- The expiries that end an order: the brake timer with the decided outcome (R105), a fence's delay with DONE (R108),
the suspend limit with SUPPLY (R123). The order ends as R44 says, the legs react, and a pass follows; an expiry whose
timer does not run is dropped (R87), and so is a suspend limit's of another suspension (R121, R126); one addressed to
an order that has ended never reaches another order in the slot (R44). That an order and a run of its timer are known
by numbers is the model's choice (log 7). -/
def Obligations.EndingExpiries : Prop :=
  (∀ (i : SlotNo) (o : Order) (m : Move) (e : Ending) (s : State), s.inReset = false → s.slot i = .active o m →
    m.phase = .braking → m.outcome = some e →
    ∃ t, s.afterEndings (fun _ => e) [i] t ∧ exec (.brakeTimerExpiry ⟨i, o.serial⟩) s = .next t.settle.dispatch) ∧
  (∀ (i : SlotNo) (o : Order) (n : Nat) (s : State), s.inReset = false → s.slot i = .waiting o n →
    ∃ t, s.afterEndings (fun _ => .done) [i] t ∧ exec (.fenceDelayExpiry ⟨i, o.serial⟩) s = .next t.settle.dispatch) ∧
  (∀ (i : SlotNo) (o : Order) (m : Move) (s : State), s.inReset = false → s.slot i = .active o m →
    m.phase = .suspended → m.suspendTimer ≠ none →
    ∃ t, s.afterEndings (fun _ => .supply) [i] t ∧ 
      exec (.suspendLimitExpiry ⟨⟨i, o.serial⟩, m.suspendRun⟩) s = .next t.settle.dispatch) ∧
  (∀ (i : SlotNo) (n k : Nat) (s : State),
    (s.DemandLaw → (s.slot i).inPhase (· == .braking) = false → exec (.brakeTimerExpiry ⟨i, n⟩) s = .next s) ∧
    ((∀ o l, s.slot i ≠ .waiting o l) → exec (.fenceDelayExpiry ⟨i, n⟩) s = .next s) ∧
    ((s.slot i).inPhase (· == .suspended) = false → exec (.suspendLimitExpiry ⟨⟨i, n⟩, k⟩) s = .next s)) ∧
  (∀ (r : TimerRef) (s : State), (∀ o m, s.slot r.order.slot = .active o m → m.suspendRun ≠ r.run) →
    exec (.suspendLimitExpiry r) s = .next s) ∧
  ∀ (r : OrderRef) (k : Nat) (c : Instr) (s : State),
    c ∈ [Instr.rampExpiry ⟨r, k⟩, .windowExpiry ⟨r, k⟩, .timeoutExpiry r, .brakeTimerExpiry r, .fenceDelayExpiry r,
      .suspendLimitExpiry ⟨r, k⟩] →
    (∀ o, (s.slot r.slot).order = some o → o.serial ≠ r.serial) → exec c s = .next s

/-! ### Monitors -/

/-- RESTART_DELAY_EXPIRY in RECOVERING makes the supply state IN and sets SUPPLY_IN; with AUTO_RESUME on, every
SUSPENDED move resumes first (R121); a pass follows. In any other state it is dropped, and so is the expiry of a delay
that was abandoned, also while another delay runs (R118, R120). The model's choice: that a delay is known by a number
(log 7), and that a move which resumes with no timeout left (R115) is one with 0 remaining and times out in the step
(log 19). -/
def Obligations.RestartDelayExpiryReachesIn : Prop :=
  (∀ (n : Nat) (s : State), s.inReset = false → s.supply = .recovering n → s.settings.autoResume = false →
    exec (.restartDelayExpiry s.restartRun) s =
      .next ({ s with supply := .inRange, flags := s.flags ||| 0x0040 } : State).dispatch) ∧
  (∀ (n : Nat) (s : State), s.inReset = false → s.supply = .recovering n → s.settings.autoResume = true →
    ∃ u w : State, u = { s with supply := .inRange, flags := s.flags ||| 0x0040, slots := u.slots } ∧
      w = { u.settle with slots := w.slots } ∧
      (∀ i, (s.slot i).inPhase (· == .suspended) = false → u.slot i = s.slot i ∧ w.slot i = s.slot i) ∧
      (∀ i o m, s.slot i = .active o m → m.phase = .suspended → m.holdPending = true →
        u.slot i = .active o { m with phase := .held, holdPending := false, suspendTimer := none } ∧
        w.slot i = u.slot i) ∧
      (∀ i o m k, s.slot i = .active o m → m.phase = .suspended → m.holdPending = false →
        k = s.reenter o { m with suspendTimer := none } →
        u.slot i = .active o k ∧
        (k.phase.driving = true → k.timeoutLeft = some 0 → w.slot i = .active o (s.timeOut o k)) ∧
        (k.phase.driving = false ∨ k.timeoutLeft ≠ some 0 → w.slot i = .active o k)) ∧
      exec (.restartDelayExpiry s.restartRun) s = .next w.settle.dispatch) ∧
  ∀ (k : Nat) (s : State), (∀ n, s.supply ≠ .recovering n) ∨ s.restartRun ≠ k →
    exec (.restartDelayExpiry k) s = .next s

/-- How a leg reaches a new demand: FLOAT is entered and left at once, LOW and a high-side state are parted by a BREAK
of the dead interval setting, a demand that comes during a BREAK is recorded and the interval runs on, and OFF takes
none (R27, R28, R29, R30); at DEAD_INTERVAL_END the leg enters the demand it holds (R29), and the end of an interval that
was abandoned is dropped (R27). A leg that stops conducting ends its run; that a run is known by a number is the
model's choice (log 7). -/
def Obligations.LegReactions : Prop :=
  (∀ (k : LegNo) (s : State), (s.settle.leg k).claims = (s.leg k).claims) ∧
  (∀ (k : LegNo) (s : State), (s.leg k).state = .off → (s.settle.leg k).state = .off) ∧
  (∀ (k : LegNo) (s : State), (s.leg k).state ≠ .off → s.demand k = .float → (s.settle.leg k).state = .float) ∧
  (∀ (k : LegNo) (s : State), (s.leg k).state = .float → (s.settle.leg k).state = (s.demand k).state) ∧
  (∀ (k : LegNo) (s : State), (s.leg k).state = .low → s.demand k = .low → (s.settle.leg k).state = .low) ∧
  (∀ (k : LegNo) (s : State), (s.leg k).state = .low → s.demand k = .high ∨ s.demand k = .mod ∨ s.demand k = .ext →
    (s.settle.leg k).state = .brk (s.demand k) s.settings.dead.toNat) ∧
  (∀ (k : LegNo) (s : State), (s.leg k).state = .high ∨ (s.leg k).state = .mod ∨ (s.leg k).state = .ext →
    (s.demand k = .low → (s.settle.leg k).state = .brk .low s.settings.dead.toNat) ∧
    (s.demand k ≠ .low → (s.settle.leg k).state = (s.demand k).state)) ∧
  (∀ (k : LegNo) (d : Demand) (n : Nat) (s : State), (s.leg k).state = .brk d n → s.demand k ≠ .float →
    (s.settle.leg k).state = .brk (s.demand k) n) ∧
  (∀ s : State, s.settle = { s with legs := s.settle.legs }) ∧
  (∀ (k : LegNo) (d : Demand) (n : Nat) (s : State), s.inReset = false → (s.leg k).state = .brk d n →
    exec (.deadIntervalEnd ⟨k, (s.leg k).run⟩) s = .next (s.setLeg k { s.leg k with state := d.state })) ∧
  (∀ (r : LegRef) (s : State), (∀ d n, (s.leg r.leg).state ≠ .brk d n) ∨ (s.leg r.leg).run ≠ r.run →
    exec (.deadIntervalEnd r) s = .next s) ∧
  (∀ x : LegState, x.conducting = true ↔ x = .low ∨ x = .high ∨ x = .mod ∨ x = .ext) ∧
  ∀ (k : LegNo) (s : State),
    (s.settle.leg k).run =
      if (s.leg k).state.conducting = true ∧ (s.settle.leg k).state.conducting = false then (s.leg k).run + 1
      else (s.leg k).run

/-- The demand of a leg from its claims and their owners (R25): nothing claimed is FLOAT; a DRIVE leg is EXT, MOD or
HIGH while its owner drives, LOW while it brakes or is held, FLOAT while it is suspended; a RETURN leg is LOW for an
owner that is not SUSPENDED. The switches follow the leg's state, and a MOD leg modulates with the current duty of the
move that owns its DRIVE claim (R21; the place in the period and MODIN's level are no state of the model, log 17). -/
def Obligations.DemandFollowsClaims : Prop :=
  ∀ (k : LegNo) (s : State),
    ((s.leg k).claims = [] → s.demand k = .float) ∧
    (∀ i o m, (s.leg k).claims = [⟨i, .drive⟩] → s.slot i = .active o m →
      (m.phase.driving = true → m.extHeld = true → s.demand k = .ext) ∧
      (m.phase.driving = true → m.extHeld = false → m.duty < 64 → s.demand k = .mod) ∧
      (m.phase.driving = true → m.extHeld = false → m.duty = 64 → s.demand k = .high) ∧
      (m.phase = .braking ∨ m.phase = .held → s.demand k = .low) ∧
      (m.phase = .suspended → s.demand k = .float)) ∧
    ((∀ c ∈ (s.leg k).claims, c.type = .ret) →
      ((∃ c ∈ (s.leg k).claims, ∃ o m, s.slot c.slot = .active o m ∧ m.phase ≠ .suspended) → s.demand k = .low) ∧
      ((∀ c ∈ (s.leg k).claims, ∃ o m, s.slot c.slot = .active o m ∧ m.phase = .suspended) →
        s.demand k = .float)) ∧
    ((s.leg k).state = .float ∨ (s.leg k).state = .off ∨ (∃ d n, (s.leg k).state = .brk d n) →
      s.highSide k = .off ∧ s.lowSide k = .off) ∧
    ((s.leg k).state = .low → s.highSide k = .off ∧ s.lowSide k = .on) ∧
    ((s.leg k).state = .high → s.highSide k = .on ∧ s.lowSide k = .off) ∧
    (∀ i o m, (s.leg k).state = .mod → (s.leg k).claims = [⟨i, .drive⟩] → s.slot i = .active o m →
      s.highSide k = .modulated m.duty) ∧
    ((s.leg k).state = .mod → s.lowSide k = .off) ∧
    ((s.leg k).state = .ext → s.highSide k = .modin ∧ s.lowSide k = .off)

/-- OVER_CURRENT on a conducting leg latches it OFF without claims, ends every move that claimed it with OVERCURRENT,
oldest first, lets the other legs react, sets LEG_FAULT, and a pass follows (R33); on any other leg it is dropped
(R32), and so is a detection made before the leg last stopped conducting (R149; that a run of a leg is known by a number
is the model's choice, log 7). -/
def Obligations.OverCurrentLatchesTheLeg : Prop :=
  (∀ (k : LegNo) (s : State), s.inReset = false → s.PoolLaw →
    (s.leg k).state = .low ∨ (s.leg k).state = .high ∨ (s.leg k).state = .mod ∨ (s.leg k).state = .ext →
    ∃ t, (s.setLeg k { state := .off, claims := [], run := (s.leg k).run + 1 }).afterEndings (fun _ => .overcurrent)
        (s.acceptance.filter fun i =>
          (s.leg k).claims.any (fun c => c.slot == i) && (s.slot i).move.isSome) t ∧
      exec (.overCurrent ⟨k, (s.leg k).run⟩) s = .next ({ t.settle with flags := s.flags ||| 0x0002 } : State).dispatch) ∧
  ∀ (r : LegRef) (s : State),
    (s.leg r.leg).state = .float ∨ (s.leg r.leg).state = .off ∨ (∃ d n, (s.leg r.leg).state = .brk d n) ∨
      (s.leg r.leg).run ≠ r.run →
    exec (.overCurrent r) s = .next s

/-- HOLD_ASSERTED sets HOLD_ON, makes every driving move HELD and sets hold-pending of every SUSPENDED one (R112,
R113). HOLD_RELEASED sets HOLD_OFF, clears hold-pending, returns every HELD move to driving by R89 (timing out at
once one with no timeout left, R115; log 19), and a pass follows (R114). A hold event in its own state is dropped (log 13). -/
def Obligations.HoldEvents : Prop :=
  (∀ s : State, s.inReset = false → s.holdOn = false →
    ∃ u : State, u = { s with holdOn := true, flags := s.flags ||| 0x0080, slots := u.slots } ∧
      (∀ i o m, s.slot i = .active o m → m.phase.driving = true →
        u.slot i = .active o { m with phase := .held, window := none, rampTimer := none }) ∧
      (∀ i o m, s.slot i = .active o m → m.phase = .suspended →
        u.slot i = .active o { m with holdPending := true }) ∧
      (∀ i, (s.slot i).inPhase (fun p => p.driving || p == .suspended) = false → u.slot i = s.slot i) ∧
      exec .holdAsserted s = .next u.settle) ∧
  (∀ s : State, s.inReset = false → s.holdOn = true →
    ∃ u w : State, u = { s with holdOn := false, flags := s.flags ||| 0x0100, slots := u.slots } ∧
      w = { u.settle with slots := w.slots } ∧
      (∀ i o m, s.slot i = .active o m → m.phase = .suspended →
        u.slot i = .active o { m with holdPending := false } ∧ w.slot i = u.slot i) ∧
      (∀ i, (s.slot i).inPhase (fun p => p == .held || p == .suspended) = false →
        u.slot i = s.slot i ∧ w.slot i = s.slot i) ∧
      (∀ i o m n, s.slot i = .active o m → m.phase = .held → n = s.reenter o m →
        u.slot i = .active o n ∧
        (n.phase.driving = true → n.timeoutLeft = some 0 → w.slot i = .active o (s.timeOut o n)) ∧
        (n.phase.driving = false ∨ n.timeoutLeft ≠ some 0 → w.slot i = .active o n)) ∧
      exec .holdReleased s = .next w.settle.dispatch) ∧
  (∀ s : State, s.holdOn = true → exec .holdAsserted s = .next s) ∧
  ∀ s : State, s.holdOn = false → exec .holdReleased s = .next s

/-- SUPPLY_OUT in IN suspends every driving and HELD move, ends BRAKING ones at once with their decided outcomes, and
sets SUPPLY_OUT (R117; each suspension is a new run of the limit, and each start of the restart delay one of the delay, log 7); in OUT and RECOVERING it makes the state OUT and moves nothing (R118). SUPPLY_IN_RANGE starts
the restart delay in OUT and changes no move or flag (R119). The monitor arms at each supply out and disarms at each
supply in-range (R144); an event it would not deliver is dropped (log 13). -/
def Obligations.SupplyEvents : Prop :=
  (∀ s : State, s.inReset = false → s.insideOuter = true → s.supply = .inRange → s.PoolLaw → s.MoveLaw →
    ∃ u w : State,
      u = { s with
            supply := .out, insideOuter := false, armed := true, flags := s.flags ||| 0x0020, slots := u.slots } ∧
      (∀ i o m, s.slot i = .active o m → m.phase.driving = true ∨ m.phase = .held →
        u.slot i = .active o { m with
          phase := .suspended, holdPending := m.phase == .held, window := none, rampTimer := none
          suspendTimer :=
            if s.settings.suspend = 0 then none else some (s.settings.suspend.toNat * 200000)
          suspendRun := m.suspendRun + 1 }) ∧
      (∀ i, (s.slot i).inPhase (fun p => p.driving || p == .held) = false → u.slot i = s.slot i) ∧
      u.afterEndings (fun i => (((s.slot i).move.bind Move.outcome).getD .done))
        (s.acceptance.filter fun i => (s.slot i).inPhase (· == .braking)) w ∧
      exec .supplyOut s = .next w.settle) ∧
  (∀ s : State, s.inReset = false → s.insideOuter = true → s.supply ≠ .inRange →
    exec .supplyOut s =
      .next { s with supply := .out, insideOuter := false, armed := true, flags := s.flags ||| 0x0020 }) ∧
  (∀ s : State, s.inReset = false → s.armed = true →
    (s.supply = .out →
      exec .supplyInRange s =
        .next { s with
          supply := .recovering (s.settings.restart.toNat * 200000), restartRun := s.restartRun + 1
          insideOuter := true, armed := false }) ∧
    (s.supply ≠ .out → exec .supplyInRange s = .next { s with insideOuter := true, armed := false })) ∧
  (∀ s : State, s.inReset = false → exec .outerWindowReentry s = .next { s with insideOuter := true }) ∧
  (∀ s : State, s.insideOuter = false → exec .supplyOut s = .next s) ∧
  ∀ s : State, s.armed = false → exec .supplyInRange s = .next s

/-- The thermal machine (R137): WARN_RISE in NORMAL makes WARM, sets THERMAL_WARN and caps the driving moves, but
for one that holds the EXT grant, WARN_FALL in WARM makes NORMAL and lifts the cap (R138); SHUTDOWN_RISE in WARM or COOLED makes SHUTDOWN, sets THERMAL_SHUTDOWN
and ends every active move with THERMAL, fences aside (R139); SHUTDOWN_FALL in SHUTDOWN makes COOLED and sets
THERMAL_COOLED with nothing else (R141); elsewhere an event changes its comparator alone (R135). An event that its
comparator would not deliver, and a shutdown rise in NORMAL, are dropped: the model's choice (log 12, log 13). -/
def Obligations.ThermalEvents : Prop :=
  (∀ s : State, s.inReset = false → s.warnSet = false → s.thermal = .normal →
    ∃ u : State, u = { s with warnSet := true, thermal := .warm, flags := s.flags ||| 0x0004, slots := u.slots } ∧
      (∀ i o m, s.slot i = .active o m → m.phase.driving = true → m.extHeld = false →
        u.slot i = .active o { m with
          duty := if s.settings.warmCap < m.phaseDuty then s.settings.warmCap else m.phaseDuty }) ∧
      (∀ i o m, s.slot i = .active o m → m.phase.driving = true → m.extHeld = true →
        u.slot i = .active o { m with duty := m.phaseDuty }) ∧
      (∀ i, (s.slot i).inPhase Phase.driving = false → u.slot i = s.slot i) ∧
      exec .warnRise s = .next u.settle) ∧
  (∀ s : State, s.inReset = false → s.warnSet = false → s.thermal ≠ .normal →
    exec .warnRise s = .next { s with warnSet := true }) ∧
  (∀ s : State, s.inReset = false → s.warnSet = true → s.thermal = .warm →
    ∃ u : State, u = { s with warnSet := false, thermal := .normal, slots := u.slots } ∧
      (∀ i o m, s.slot i = .active o m → m.phase.driving = true →
        u.slot i = .active o { m with duty := m.phaseDuty }) ∧
      (∀ i, (s.slot i).inPhase Phase.driving = false → u.slot i = s.slot i) ∧
      exec .warnFall s = .next u.settle) ∧
  (∀ s : State, s.inReset = false → s.warnSet = true → s.thermal ≠ .warm →
    exec .warnFall s = .next { s with warnSet := false }) ∧
  (∀ s : State, s.inReset = false → s.shutdownSet = false → s.thermal = .warm ∨ s.thermal = .cooled → s.PoolLaw →
    ∃ w : State,
      ({ s with shutdownSet := true, thermal := .shutdown, flags := s.flags ||| 0x0008 } : State).afterEndings
        (fun _ => .thermal) (s.acceptance.filter fun i => (s.slot i).move.isSome) w ∧
      exec .shutdownRise s = .next w.settle) ∧
  (∀ s : State, s.inReset = false → s.shutdownSet = true → s.thermal = .shutdown →
    exec .shutdownFall s =
      .next { s with shutdownSet := false, thermal := .cooled, flags := s.flags ||| 0x0010 }) ∧
  (∀ s : State, s.inReset = false → s.shutdownSet = true → s.thermal ≠ .shutdown →
    exec .shutdownFall s = .next { s with shutdownSet := false }) ∧
  (∀ s : State,
    (s.warnSet = true → exec .warnRise s = .next s) ∧ (s.warnSet = false → exec .warnFall s = .next s) ∧
    (s.shutdownSet = true ∨ s.thermal = .normal ∨ s.thermal = .shutdown → exec .shutdownRise s = .next s) ∧
    (s.shutdownSet = false → exec .shutdownFall s = .next s)) ∧
  ∀ (c : Instr) (s t : State), s.inReset = false → s.thermal = .cooled → exec c s = .next t → t.thermal ≠ .cooled →
    c = .clearThermal ∨ c = .shutdownRise ∨ c = .fullReset ∨ (c = .registerWrite 0x21 ∧ s.Writing 0x07)

/-! ### Dispatch -/

/-- A pass that ends an order is followed by one further pass, over the acceptance order as the first left it, and one
that ends none by no other (R68); and whatever a series of passes does, it changes no configuration, position,
validity or STRAY of an entry, no flag but PRESSING, and nothing outside the pool, the legs, the grant and
ACTIVE_SLOT. -/
def Obligations.DispatchIsASeriesOfPasses : Prop :=
  (∀ s : State, s.PoolLaw → s.completion.length < s.pass.completion.length → s.dispatch = s.pass.dispatch) ∧
  (∀ s : State, s.pass.completion.length ≤ s.completion.length → s.dispatch = s.pass) ∧
  ∀ s : State, s.passFrame s.dispatch

/-- The walk at a FENCE (R71, R72): a QUEUED FENCE with an older slot QUEUED or ACTIVE stays; otherwise with delay 0 it
ends at once with DONE, and else it waits ARG x 10 ms; at any fence the walk stops; it passes over an ACTIVE move. -/
def Obligations.WalkStopsAtFences : Prop :=
  (∀ (i : SlotNo) (rest : List SlotNo) (o : Order) (s : State), s.slot i = .queued o → o.kind = .fence →
    ((∃ j ∈ s.acceptance.takeWhile (fun j => j != i), ((s.slot j).isQueued || (s.slot j).isActive) = true) →
      s.walk (i :: rest) = s) ∧
    ((∀ j ∈ s.acceptance.takeWhile (fun j => j != i), ((s.slot j).isQueued || (s.slot j).isActive) = false) →
      (o.arg = 0 → s.afterEndings (fun _ => .done) [i] (s.walk (i :: rest))) ∧
      (o.arg ≠ 0 → s.walk (i :: rest) = s.setSlot i (.waiting o (o.arg.toNat * 20000))))) ∧
  (∀ (i : SlotNo) (rest : List SlotNo) (o : Order) (n : Nat) (s : State), s.slot i = .waiting o n →
    s.walk (i :: rest) = s) ∧
  ∀ (i : SlotNo) (rest : List SlotNo) (o : Order) (m : Move) (s : State), s.slot i = .active o m →
    s.walk (i :: rest) = s.walk rest

/-- The walk at a QUEUED move order (R71): not considered it stays; considered, the first start-time check that applies
ends it (R75); else it starts if every compatibility test passes (R79) and stays otherwise; the walk goes on. It is
considered exactly under the three conditions of R73. -/
def Obligations.WalkJudgesMoveOrders : Prop :=
  ∀ (i : SlotNo) (rest : List SlotNo) (o : Order) (s : State), s.slot i = .queued o → o.kind ≠ .fence →
    (s.considered i o = true ↔
      (∀ j ∈ s.acceptance.takeWhile (fun j => j != i), ∀ p, s.slot j = .queued p →
        p.kind = .fence ∨ p.actuator ≠ o.actuator) ∧
      (s.act o.actuator).activeSlot = none ∧
      ∀ j ∈ s.acceptance.takeWhile (fun j => j != i), ∀ p, s.slot j = .queued p → p.kind ≠ .fence →
        s.settings.passLimit ≠ 0 → s.settings.passLimit.toNat ≤ p.pass.toNat →
        (s.config p).posLeg ≠ (s.config o).posLeg ∧ (s.config p).posLeg ≠ (s.config o).negLeg ∧
          (s.config p).negLeg ≠ (s.config o).posLeg ∧ (s.config p).negLeg ≠ (s.config o).negLeg) ∧
    (s.considered i o = false → s.walk (i :: rest) = s.walk rest) ∧
    (∀ e, s.considered i o = true → s.startEnding o = some e →
      ∃ t, s.afterEndings (fun _ => e) [i] t ∧ s.walk (i :: rest) = t.walk rest) ∧
    (s.considered i o = true → s.startEnding o = none → s.compatible i o = false →
      s.walk (i :: rest) = s.walk rest) ∧
    (s.considered i o = true → s.startEnding o = none → s.compatible i o = true →
      s.walk (i :: rest) = (s.startMove i o).walk rest)

/-- The start-time checks in their order (R74, R75): LEG_OFF for an OFF leg, then for MOVE_TO and MOVE_BY NO_REFERENCE
while UNKNOWN, RANGE for a MOVE_BY out of MIN to MAX, DONE at the target. -/
def Obligations.StartTimeChecks : Prop :=
  ∀ (o : Order) (s : State) (p : Int), p = (s.act o.actuator).position.toInt →
    (s.offAt (s.config o).posLeg = true ∨ s.offAt (s.config o).negLeg = true →
      s.startEnding o = some .legOff) ∧
    (s.offAt (s.config o).posLeg = false → s.offAt (s.config o).negLeg = false →
      (o.kind = .seekEnd → s.startEnding o = none) ∧
      (o.kind = .moveTo ∨ o.kind = .moveBy → (s.act o.actuator).valid = false →
        s.startEnding o = some .noReference) ∧
      (o.kind = .moveBy → (s.act o.actuator).valid = true →
        p + o.arg.toInt < (s.config o).min.toInt ∨ (s.config o).max.toInt < p + o.arg.toInt →
        s.startEnding o = some .range) ∧
      (o.kind = .moveBy → (s.act o.actuator).valid = true →
        ¬ (p + o.arg.toInt < (s.config o).min.toInt ∨ (s.config o).max.toInt < p + o.arg.toInt) →
        s.startEnding o = if o.arg = 0 then some .done else none) ∧
      (o.kind = .moveTo → (s.act o.actuator).valid = true →
        s.startEnding o = if o.arg.toInt = p then some .done else none))

/-- The compatibility tests (R76, R77, R78): the drive leg carries no claim and the return leg no DRIVE claim; with the
two claims added no other enabled idle actuator has one leg under a DRIVE claim and the other claimed; an order with
EXT needs the grant unheld. -/
def Obligations.CompatibilityTests : Prop :=
  ∀ (i : SlotNo) (o : Order) (d r : LegNo) (s : State),
    legOf (driveLeg (s.config o) (s.direction o)) = some d →
    legOf (returnLeg (s.config o) (s.direction o)) = some r → d ≠ r →
    (s.compatible i o = true ↔
      (s.leg d).claims = [] ∧ (∀ c ∈ (s.leg r).claims, c.type ≠ .drive) ∧
      (∀ b p q, b ≠ o.actuator → (s.act b).config.enable = 1 → (s.act b).activeSlot = none →
        legOf (s.act b).config.posLeg = some p → legOf (s.act b).config.negLeg = some q →
        ¬ ((p = d ∨ ∃ c ∈ (s.leg p).claims, c.type = .drive) ∧ (q = d ∨ q = r ∨ (s.leg q).claims ≠ [])) ∧
        ¬ ((q = d ∨ ∃ c ∈ (s.leg q).claims, c.type = .drive) ∧ (p = d ∨ p = r ∨ (s.leg p).claims ≠ []))) ∧
      (o.ext = true → s.grant = none))

/-- The start of a move (R79): the two claims on the legs the direction gives (R22, R74), the grant for an order with
EXT, a fresh move record (R49, R50) in its first drive period, ACTIVE_SLOT, the PASS counts of the older QUEUED move
orders raised (R80), PRESSING set exactly if one of these raises brings a count to the limit (R81), and the legs
react. The three run counts of the record are the model's own (log 7). -/
def Obligations.StartPlacesClaimsAndRecord : Prop :=
  (∀ (i : SlotNo) (o : Order) (d r : LegNo) (s : State), s.slot i = .queued o → o.kind ≠ .fence →
    legOf (driveLeg (s.config o) (s.direction o)) = some d →
    legOf (returnLeg (s.config o) (s.direction o)) = some r → d ≠ r →
    ∃ u : State, s.startMove i o = u.settle ∧
      u = { s with
            slots := u.slots, legs := u.legs, grant := if o.ext then some i else s.grant
            acts := s.acts.set o.actuator { s.act o.actuator with activeSlot := some i }, flags := u.flags } ∧
      u.slot i = .active o (s.enterDrive o (s.newMove o)) ∧
      (∀ j p, j ≠ i → j ∈ s.acceptance.takeWhile (fun j => j != i) → s.slot j = .queued p → p.kind ≠ .fence →
        u.slot j = .queued { p with pass := if p.pass = 15 then 15 else p.pass + 1 }) ∧
      (∀ j, j ≠ i →
        j ∉ s.acceptance.takeWhile (fun j => j != i) ∨ (∀ p, s.slot j = .queued p → p.kind = .fence) →
        u.slot j = s.slot j) ∧
      u.leg d = { s.leg d with claims := (s.leg d).claims ++ [⟨i, .drive⟩] } ∧
      u.leg r = { s.leg r with claims := (s.leg r).claims ++ [⟨i, .ret⟩] } ∧
      (∀ k, k ≠ d → k ≠ r → u.leg k = s.leg k) ∧
      ((∃ j p, j ∈ s.acceptance.takeWhile (fun j => j != i) ∧ s.slot j = .queued p ∧ p.kind ≠ .fence ∧
          p.pass ≠ 15 ∧ p.pass.toNat + 1 = s.settings.passLimit.toNat) →
        u.flags = s.flags ||| 0x0800) ∧
      ((∀ j p, j ∈ s.acceptance.takeWhile (fun j => j != i) → s.slot j = .queued p → p.kind ≠ .fence →
          p.pass ≠ 15 → p.pass.toNat + 1 ≠ s.settings.passLimit.toNat) →
        u.flags = s.flags)) ∧
  (∀ (o : Order) (p : Int) (s : State), p = (s.act o.actuator).position.toInt →
    s.newMove o =
      { dir := s.direction o, target := s.target o, snapshot := s.speeds[o.speed], phase := .starting
        rampLevel := s.speeds[o.speed].start, duty := s.speeds[o.speed].start, outcome := none, driven := 0, coast := 0
        driveTicks := 0, firstSeen := false
        timeoutLeft := if o.timeout = 0 then none else some (o.timeout.toNat * 200000)
        extHeld := o.ext, holdPending := false, rampTimer := none, window := none, brakeTimer := none
        suspendTimer := none, rampRun := 0, windowRun := 0, suspendRun := 0 } ∧
    (o.kind = .moveTo → s.target o = some o.arg.toInt) ∧ (o.kind = .moveBy → s.target o = some (p + o.arg.toInt)) ∧
    (∀ g, o.kind = .moveTo ∨ o.kind = .moveBy → s.target o = some g →
      (p < g → s.direction o = .opening) ∧ (g < p → s.direction o = .closing)) ∧
    (o.kind = .seekEnd → s.target o = none ∧ (o.arg = 1 → s.direction o = .opening) ∧
      (o.arg = 0 → s.direction o = .closing))) ∧
  ∀ c : ActConfig,
    driveLeg c .opening = c.posLeg ∧ returnLeg c .opening = c.negLeg ∧ driveLeg c .closing = c.negLeg ∧
      returnLeg c .closing = c.posLeg

/-- A drive period begins (R88, R90) and a move returns to driving (R89): at or past the target it brakes with DONE;
else the start window starts and the move is RUNNING at the run duty with the EXT grant or when the start duty is not
below the run duty, STARTING at the start duty with the ramp timer otherwise, and APPROACHING within APPROACH of the
target; the current duty is capped while WARM (R94). Each start of a timer is a new run of it (log 7). -/
def Obligations.DrivePeriodBegins : Prop :=
  ∀ (o : Order) (m : Move) (p : Int) (w : Option Nat) (s : State), p = (s.act o.actuator).position.toInt →
    w = some ((s.act o.actuator).config.startWin.toNat * 20000) →
    (m.extHeld = true →
      s.enterDrive o m =
        { m with
          firstSeen := false, window := w, windowRun := m.windowRun + 1, phase := .running, rampTimer := none
          duty := m.snapshot.run }) ∧
    (∀ g, m.extHeld = false → m.target = some g →
      (g - p).natAbs ≤ (s.act o.actuator).config.approach.toNat →
      ∃ l n, s.enterDrive o m =
        { m with
          firstSeen := false, window := w, windowRun := m.windowRun + 1, phase := .approaching, rampTimer := none
          rampLevel := l, rampRun := n
          duty := s.capped m.snapshot.approach }) ∧
    (m.extHeld = false →
      (∀ g, m.target = some g → (s.act o.actuator).config.approach.toNat < (g - p).natAbs) →
      (m.snapshot.start < m.snapshot.run →
        s.enterDrive o m =
          { m with
            firstSeen := false, window := w, windowRun := m.windowRun + 1, phase := .starting
            rampLevel := m.snapshot.start, rampTimer := some (s.settings.ramp.toNat * 20000)
            rampRun := m.rampRun + 1, duty := s.capped m.snapshot.start }) ∧
      (m.snapshot.run ≤ m.snapshot.start →
        s.enterDrive o m =
          { m with
            firstSeen := false, window := w, windowRun := m.windowRun + 1, phase := .running
            rampLevel := m.snapshot.run, rampTimer := none
            duty := s.capped m.snapshot.run })) ∧
    (∀ g, m.target = some g → (m.dir = .opening ∧ g ≤ p) ∨ (m.dir = .closing ∧ p ≤ g) →
      s.reenter o m =
        { m with
          outcome := some .done, phase := .braking, window := none, rampTimer := none
          brakeTimer := some (s.settings.brake.toNat * 20000) }) ∧
    ((∀ g, m.target = some g → ¬ ((m.dir = .opening ∧ g ≤ p) ∨ (m.dir = .closing ∧ p ≤ g))) →
      s.reenter o m = s.enterDrive o m) ∧
    (s.thermal ≠ .warm → ∀ d, s.capped d = d) ∧
    (s.thermal = .warm → ∀ d, s.capped d = if s.settings.warmCap < d then s.settings.warmCap else d)

/-! ### The laws every step keeps -/

/-- A dispatch pass does nothing, and so has no further pass, while the dispatcher is STOPPED, the hold line is
asserted, the supply state is OUT or RECOVERING, or the thermal state is SHUTDOWN or COOLED; otherwise, WARM included,
it walks the acceptance order. The law of R70: a step after which a slot that was QUEUED is ACTIVE leaves the part in
none of these conditions. -/
def Obligations.StartsOnlyWhenPassesAreAllowed : Prop :=
  (∀ s : State,
    s.running = false ∨ s.holdOn = true ∨ s.supply = .out ∨ (∃ n, s.supply = .recovering n) ∨
      s.thermal = .shutdown ∨ s.thermal = .cooled →
    s.pass = s ∧ s.dispatch = s) ∧
  (∀ s : State, s.running = true → s.holdOn = false → s.supply = .inRange →
    s.thermal = .normal ∨ s.thermal = .warm → s.pass = s.walk s.acceptance) ∧
  ∀ (s t : State) (i : SlotNo), step s = .next t → (s.slot i).isQueued = true → (t.slot i).isActive = true →
    t.running = true ∧ t.holdOn = false ∧ t.supply = .inRange ∧ t.thermal ≠ .shutdown ∧ t.thermal ≠ .cooled

/-- Every step keeps the law of the two lists (R40, R42, R43). -/
def Obligations.StepKeepsPoolLaw : Prop :=
  ∀ s t : State, s.PoolLaw → step s = .next t → t.PoolLaw

/-- Every step keeps the laws of the claims together: one DRIVE and one RETURN claim for each active move, on the legs
of its actuator, and none besides (R22), a DRIVE claim alone on its leg (R23), none on an OFF leg (R34), with
ACTIVE_SLOT (R4), the wiring (R8, R9), the kinds (R49) and the lists (R40 to R43) they rest on. -/
def Obligations.StepKeepsClaimLaws : Prop :=
  ∀ s t : State, s.ClaimLaws → step s = .next t → t.ClaimLaws

/-- Every step keeps the bystander law: no enabled actuator without an active move has one leg under a DRIVE claim
while its other leg carries any claim (R77), and no two enabled actuators share a pair of legs (R10). -/
def Obligations.StepKeepsBystanderLaw : Prop :=
  (∀ s t : State, s.ClaimLaws → s.BystanderLaw → step s = .next t → t.BystanderLaw) ∧
  ∀ s t : State, s.PairLaw → step s = .next t → t.PairLaw

/-- Every step leaves each leg that is not OFF at the demand of its claims or in a BREAK that ends in it (R25, R26,
R29). A leg that stops conducting in a step ends its run for good, so that a detection made before never reaches it again
(R149; the number of a run is the model's own, log 7). -/
def Obligations.StepKeepsDemandLaw : Prop :=
  (∀ s t : State, s.PoolLaw → s.OffLaw → s.DemandLaw → step s = .next t → t.DemandLaw) ∧
  ∀ (s t : State) (k : LegNo), step s = .next t →
    (s.leg k).run ≤ (t.leg k).run ∧
    ((s.leg k).state.conducting = true → (t.leg k).state.conducting = false → (s.leg k).run < (t.leg k).run)

/-- Every step keeps each move record in agreement with its phase (R86, R87, R90), the grant with the one move that
holds it (R78), the phases with the monitors (R70, R112, R118, R121, R136), the comparators with the thermal state
(R137), and the stored values in range (R157, R161, R177, R178); and no two orders of the pool have one number, nor
one that a later order will get, so that an expiry names one order alone (R44; the number is the model's own, log 7). -/
def Obligations.StepKeepsMoveAndMonitorLaws : Prop :=
  (∀ s t : State, s.MoveLaw → step s = .next t → t.MoveLaw) ∧
  (∀ s t : State, s.PoolLaw → s.GrantLaw → step s = .next t → t.GrantLaw) ∧
  (∀ s t : State, s.PoolLaw → s.MoveLaw → s.MonitorLaw → step s = .next t → t.MonitorLaw) ∧
  (∀ s t : State, s.ThermalLaw → step s = .next t → t.ThermalLaw) ∧
  (∀ s t : State, s.StoreLaw → step s = .next t → t.StoreLaw) ∧
  (∀ s t : State, s.WiringLaw → s.DisabledLaw → step s = .next t → t.DisabledLaw) ∧
  ∀ s t : State, s.SerialLaw → step s = .next t → t.SerialLaw ∧ s.serial ≤ t.serial

/-- The laws hold at State.reset. What State.reset gives the thermal monitor, the hold line and the outer window is
the model's choice (log 9). -/
def Obligations.LawsHoldAtReset : Prop :=
  State.reset.ClaimLaws ∧ State.reset.BystanderLaw ∧ State.reset.PairLaw ∧ State.reset.DemandLaw ∧
    State.reset.MoveLaw ∧ State.reset.GrantLaw ∧ State.reset.MonitorLaw ∧ State.reset.ThermalLaw ∧
    State.reset.StoreLaw ∧ State.reset.DisabledLaw ∧ State.reset.SerialLaw

/-! ### Completion records -/

/-- The completion record that the ending of an order forms (R44, R52): tag, kind, actuator, outcome, the actuator's
POSITION in that step and 0 for a FENCE, the counts and the whole 100 ms of driving time, held at 255 (R101), of an
order that started and zeros of one that did not, PASS, EXT, and NOTIFY (log 20). It is the slot's final content until
the slot becomes FREE (R52). -/
def Obligations.RecordHoldsTheEnding : Prop :=
  (∀ (o : Order) (e : Ending) (p : Half) (s : State),
    p = (if o.kind = .fence then 0 else (s.act o.actuator).position) →
    (SlotState.queued o).ended s e =
      .done { tag := o.tag, kind := o.kind, actuator := o.actuator, outcome := e, position := p, driven := 0
              coast := 0, driving := 0, pass := o.pass, ext := o.ext, notify := o.notify } ∧
    (∀ n, (SlotState.waiting o n).ended s e = (SlotState.queued o).ended s e) ∧
    ∀ m : Move, (SlotState.active o m).ended s e =
      .done { tag := o.tag, kind := o.kind, actuator := o.actuator, outcome := e, position := p, driven := m.driven
              coast := m.coast
              driving := if m.driveTicks < 51000000 then BitVec.ofNat 8 (m.driveTicks / 200000) else 255
              pass := o.pass, ext := o.ext, notify := o.notify }) ∧
  (∀ (e : Ending) (s : State), SlotState.free.ended s e = .free) ∧
  (∀ (r : Record) (e : Ending) (s : State), (SlotState.done r).ended s e = .done r) ∧
  ∀ (i : SlotNo) (r : Record) (s t : State), s.slot i = .done r → step s = .next t →
    t.slot i = .done r ∨ t.slot i = .free
end

