-- ==== Sys2Proof/Laws/State.lean ====
section
/-! SUPPORT. What each named update of the state leaves and what it writes: one lemma per field and update, and the reading of an entry, a slot or a leg after each. -/

namespace Sys2Proof.Machine

/-! ### setAct -/

@[simp] theorem setAct_inReset (s : State) (a : ActNo) (e : Actuator) : (s.setAct a e).inReset = s.inReset := rfl
@[simp] theorem setAct_actSel (s : State) (a : ActNo) (e : Actuator) : (s.setAct a e).actSel = s.actSel := rfl
@[simp] theorem setAct_page (s : State) (a : ActNo) (e : Actuator) : (s.setAct a e).page = s.page := rfl
@[simp] theorem setAct_applyResult (s : State) (a : ActNo) (e : Actuator) : (s.setAct a e).applyResult = s.applyResult := rfl
@[simp] theorem setAct_legs (s : State) (a : ActNo) (e : Actuator) : (s.setAct a e).legs = s.legs := rfl
@[simp] theorem setAct_slots (s : State) (a : ActNo) (e : Actuator) : (s.setAct a e).slots = s.slots := rfl
@[simp] theorem setAct_acceptance (s : State) (a : ActNo) (e : Actuator) : (s.setAct a e).acceptance = s.acceptance := rfl
@[simp] theorem setAct_completion (s : State) (a : ActNo) (e : Actuator) : (s.setAct a e).completion = s.completion := rfl
@[simp] theorem setAct_staging (s : State) (a : ActNo) (e : Actuator) : (s.setAct a e).staging = s.staging := rfl
@[simp] theorem setAct_submitResult (s : State) (a : ActNo) (e : Actuator) : (s.setAct a e).submitResult = s.submitResult := rfl
@[simp] theorem setAct_assignedSlot (s : State) (a : ActNo) (e : Actuator) : (s.setAct a e).assignedSlot = s.assignedSlot := rfl
@[simp] theorem setAct_slotSel (s : State) (a : ActNo) (e : Actuator) : (s.setAct a e).slotSel = s.slotSel := rfl
@[simp] theorem setAct_running (s : State) (a : ActNo) (e : Actuator) : (s.setAct a e).running = s.running := rfl
@[simp] theorem setAct_grant (s : State) (a : ActNo) (e : Actuator) : (s.setAct a e).grant = s.grant := rfl
@[simp] theorem setAct_settings (s : State) (a : ActNo) (e : Actuator) : (s.setAct a e).settings = s.settings := rfl
@[simp] theorem setAct_speeds (s : State) (a : ActNo) (e : Actuator) : (s.setAct a e).speeds = s.speeds := rfl
@[simp] theorem setAct_thermal (s : State) (a : ActNo) (e : Actuator) : (s.setAct a e).thermal = s.thermal := rfl
@[simp] theorem setAct_warnSet (s : State) (a : ActNo) (e : Actuator) : (s.setAct a e).warnSet = s.warnSet := rfl
@[simp] theorem setAct_shutdownSet (s : State) (a : ActNo) (e : Actuator) : (s.setAct a e).shutdownSet = s.shutdownSet := rfl
@[simp] theorem setAct_supply (s : State) (a : ActNo) (e : Actuator) : (s.setAct a e).supply = s.supply := rfl
@[simp] theorem setAct_insideOuter (s : State) (a : ActNo) (e : Actuator) : (s.setAct a e).insideOuter = s.insideOuter := rfl
@[simp] theorem setAct_armed (s : State) (a : ActNo) (e : Actuator) : (s.setAct a e).armed = s.armed := rfl
@[simp] theorem setAct_holdOn (s : State) (a : ActNo) (e : Actuator) : (s.setAct a e).holdOn = s.holdOn := rfl
@[simp] theorem setAct_flags (s : State) (a : ActNo) (e : Actuator) : (s.setAct a e).flags = s.flags := rfl
@[simp] theorem setAct_mask (s : State) (a : ActNo) (e : Actuator) : (s.setAct a e).mask = s.mask := rfl
@[simp] theorem setAct_emptyView (s : State) (a : ActNo) (e : Actuator) : (s.setAct a e).emptyView = s.emptyView := rfl
@[simp] theorem setAct_port (s : State) (a : ActNo) (e : Actuator) : (s.setAct a e).port = s.port := rfl
@[simp] theorem setAct_shadowFinal (s : State) (a : ActNo) (e : Actuator) : (s.setAct a e).shadowFinal = s.shadowFinal := rfl
@[simp] theorem setAct_shadowDriven (s : State) (a : ActNo) (e : Actuator) : (s.setAct a e).shadowDriven = s.shadowDriven := rfl
@[simp] theorem setAct_shadowPosition (s : State) (a : ActNo) (e : Actuator) : (s.setAct a e).shadowPosition = s.shadowPosition := rfl
@[simp] theorem setAct_cmdArg (s : State) (a : ActNo) (e : Actuator) : (s.setAct a e).cmdArg = s.cmdArg := rfl
@[simp] theorem setAct_cmdValue (s : State) (a : ActNo) (e : Actuator) : (s.setAct a e).cmdValue = s.cmdValue := rfl
@[simp] theorem setAct_cmdResult (s : State) (a : ActNo) (e : Actuator) : (s.setAct a e).cmdResult = s.cmdResult := rfl
@[simp] theorem setAct_cmdDetail (s : State) (a : ActNo) (e : Actuator) : (s.setAct a e).cmdDetail = s.cmdDetail := rfl
@[simp] theorem setAct_arrivals (s : State) (a : ActNo) (e : Actuator) : (s.setAct a e).arrivals = s.arrivals := rfl
@[simp] theorem setAct_serial (s : State) (a : ActNo) (e : Actuator) : (s.setAct a e).serial = s.serial := rfl
@[simp] theorem setAct_restartRun (s : State) (a : ActNo) (e : Actuator) : (s.setAct a e).restartRun = s.restartRun := rfl
@[simp] theorem setAct_pending (s : State) (a : ActNo) (e : Actuator) : (s.setAct a e).pending = s.pending := rfl
@[simp] theorem setAct_slotAt (s : State) (a : ActNo) (e : Actuator) (j : SlotNo) : (s.setAct a e).slot j = s.slot j := by
  simp only [State.slot, State.setAct]
@[simp] theorem setAct_legAt (s : State) (a : ActNo) (e : Actuator) (j : LegNo) : (s.setAct a e).leg j = s.leg j := by
  simp only [State.leg, State.setAct]

/-! ### setSlot -/

@[simp] theorem setSlot_inReset (s : State) (i : SlotNo) (x : SlotState) : (s.setSlot i x).inReset = s.inReset := rfl
@[simp] theorem setSlot_acts (s : State) (i : SlotNo) (x : SlotState) : (s.setSlot i x).acts = s.acts := rfl
@[simp] theorem setSlot_actSel (s : State) (i : SlotNo) (x : SlotState) : (s.setSlot i x).actSel = s.actSel := rfl
@[simp] theorem setSlot_page (s : State) (i : SlotNo) (x : SlotState) : (s.setSlot i x).page = s.page := rfl
@[simp] theorem setSlot_applyResult (s : State) (i : SlotNo) (x : SlotState) : (s.setSlot i x).applyResult = s.applyResult := rfl
@[simp] theorem setSlot_legs (s : State) (i : SlotNo) (x : SlotState) : (s.setSlot i x).legs = s.legs := rfl
@[simp] theorem setSlot_acceptance (s : State) (i : SlotNo) (x : SlotState) : (s.setSlot i x).acceptance = s.acceptance := rfl
@[simp] theorem setSlot_completion (s : State) (i : SlotNo) (x : SlotState) : (s.setSlot i x).completion = s.completion := rfl
@[simp] theorem setSlot_staging (s : State) (i : SlotNo) (x : SlotState) : (s.setSlot i x).staging = s.staging := rfl
@[simp] theorem setSlot_submitResult (s : State) (i : SlotNo) (x : SlotState) : (s.setSlot i x).submitResult = s.submitResult := rfl
@[simp] theorem setSlot_assignedSlot (s : State) (i : SlotNo) (x : SlotState) : (s.setSlot i x).assignedSlot = s.assignedSlot := rfl
@[simp] theorem setSlot_slotSel (s : State) (i : SlotNo) (x : SlotState) : (s.setSlot i x).slotSel = s.slotSel := rfl
@[simp] theorem setSlot_running (s : State) (i : SlotNo) (x : SlotState) : (s.setSlot i x).running = s.running := rfl
@[simp] theorem setSlot_grant (s : State) (i : SlotNo) (x : SlotState) : (s.setSlot i x).grant = s.grant := rfl
@[simp] theorem setSlot_settings (s : State) (i : SlotNo) (x : SlotState) : (s.setSlot i x).settings = s.settings := rfl
@[simp] theorem setSlot_speeds (s : State) (i : SlotNo) (x : SlotState) : (s.setSlot i x).speeds = s.speeds := rfl
@[simp] theorem setSlot_thermal (s : State) (i : SlotNo) (x : SlotState) : (s.setSlot i x).thermal = s.thermal := rfl
@[simp] theorem setSlot_warnSet (s : State) (i : SlotNo) (x : SlotState) : (s.setSlot i x).warnSet = s.warnSet := rfl
@[simp] theorem setSlot_shutdownSet (s : State) (i : SlotNo) (x : SlotState) : (s.setSlot i x).shutdownSet = s.shutdownSet := rfl
@[simp] theorem setSlot_supply (s : State) (i : SlotNo) (x : SlotState) : (s.setSlot i x).supply = s.supply := rfl
@[simp] theorem setSlot_insideOuter (s : State) (i : SlotNo) (x : SlotState) : (s.setSlot i x).insideOuter = s.insideOuter := rfl
@[simp] theorem setSlot_armed (s : State) (i : SlotNo) (x : SlotState) : (s.setSlot i x).armed = s.armed := rfl
@[simp] theorem setSlot_holdOn (s : State) (i : SlotNo) (x : SlotState) : (s.setSlot i x).holdOn = s.holdOn := rfl
@[simp] theorem setSlot_flags (s : State) (i : SlotNo) (x : SlotState) : (s.setSlot i x).flags = s.flags := rfl
@[simp] theorem setSlot_mask (s : State) (i : SlotNo) (x : SlotState) : (s.setSlot i x).mask = s.mask := rfl
@[simp] theorem setSlot_emptyView (s : State) (i : SlotNo) (x : SlotState) : (s.setSlot i x).emptyView = s.emptyView := rfl
@[simp] theorem setSlot_port (s : State) (i : SlotNo) (x : SlotState) : (s.setSlot i x).port = s.port := rfl
@[simp] theorem setSlot_shadowFinal (s : State) (i : SlotNo) (x : SlotState) : (s.setSlot i x).shadowFinal = s.shadowFinal := rfl
@[simp] theorem setSlot_shadowDriven (s : State) (i : SlotNo) (x : SlotState) : (s.setSlot i x).shadowDriven = s.shadowDriven := rfl
@[simp] theorem setSlot_shadowPosition (s : State) (i : SlotNo) (x : SlotState) : (s.setSlot i x).shadowPosition = s.shadowPosition := rfl
@[simp] theorem setSlot_cmdArg (s : State) (i : SlotNo) (x : SlotState) : (s.setSlot i x).cmdArg = s.cmdArg := rfl
@[simp] theorem setSlot_cmdValue (s : State) (i : SlotNo) (x : SlotState) : (s.setSlot i x).cmdValue = s.cmdValue := rfl
@[simp] theorem setSlot_cmdResult (s : State) (i : SlotNo) (x : SlotState) : (s.setSlot i x).cmdResult = s.cmdResult := rfl
@[simp] theorem setSlot_cmdDetail (s : State) (i : SlotNo) (x : SlotState) : (s.setSlot i x).cmdDetail = s.cmdDetail := rfl
@[simp] theorem setSlot_arrivals (s : State) (i : SlotNo) (x : SlotState) : (s.setSlot i x).arrivals = s.arrivals := rfl
@[simp] theorem setSlot_serial (s : State) (i : SlotNo) (x : SlotState) : (s.setSlot i x).serial = s.serial := rfl
@[simp] theorem setSlot_restartRun (s : State) (i : SlotNo) (x : SlotState) : (s.setSlot i x).restartRun = s.restartRun := rfl
@[simp] theorem setSlot_pending (s : State) (i : SlotNo) (x : SlotState) : (s.setSlot i x).pending = s.pending := rfl
@[simp] theorem setSlot_actAt (s : State) (i : SlotNo) (x : SlotState) (j : ActNo) : (s.setSlot i x).act j = s.act j := by
  simp only [State.act, State.setSlot]
@[simp] theorem setSlot_legAt (s : State) (i : SlotNo) (x : SlotState) (j : LegNo) : (s.setSlot i x).leg j = s.leg j := by
  simp only [State.leg, State.setSlot]

/-! ### setLeg -/

@[simp] theorem setLeg_inReset (s : State) (k : LegNo) (l : Leg) : (s.setLeg k l).inReset = s.inReset := rfl
@[simp] theorem setLeg_acts (s : State) (k : LegNo) (l : Leg) : (s.setLeg k l).acts = s.acts := rfl
@[simp] theorem setLeg_actSel (s : State) (k : LegNo) (l : Leg) : (s.setLeg k l).actSel = s.actSel := rfl
@[simp] theorem setLeg_page (s : State) (k : LegNo) (l : Leg) : (s.setLeg k l).page = s.page := rfl
@[simp] theorem setLeg_applyResult (s : State) (k : LegNo) (l : Leg) : (s.setLeg k l).applyResult = s.applyResult := rfl
@[simp] theorem setLeg_slots (s : State) (k : LegNo) (l : Leg) : (s.setLeg k l).slots = s.slots := rfl
@[simp] theorem setLeg_acceptance (s : State) (k : LegNo) (l : Leg) : (s.setLeg k l).acceptance = s.acceptance := rfl
@[simp] theorem setLeg_completion (s : State) (k : LegNo) (l : Leg) : (s.setLeg k l).completion = s.completion := rfl
@[simp] theorem setLeg_staging (s : State) (k : LegNo) (l : Leg) : (s.setLeg k l).staging = s.staging := rfl
@[simp] theorem setLeg_submitResult (s : State) (k : LegNo) (l : Leg) : (s.setLeg k l).submitResult = s.submitResult := rfl
@[simp] theorem setLeg_assignedSlot (s : State) (k : LegNo) (l : Leg) : (s.setLeg k l).assignedSlot = s.assignedSlot := rfl
@[simp] theorem setLeg_slotSel (s : State) (k : LegNo) (l : Leg) : (s.setLeg k l).slotSel = s.slotSel := rfl
@[simp] theorem setLeg_running (s : State) (k : LegNo) (l : Leg) : (s.setLeg k l).running = s.running := rfl
@[simp] theorem setLeg_grant (s : State) (k : LegNo) (l : Leg) : (s.setLeg k l).grant = s.grant := rfl
@[simp] theorem setLeg_settings (s : State) (k : LegNo) (l : Leg) : (s.setLeg k l).settings = s.settings := rfl
@[simp] theorem setLeg_speeds (s : State) (k : LegNo) (l : Leg) : (s.setLeg k l).speeds = s.speeds := rfl
@[simp] theorem setLeg_thermal (s : State) (k : LegNo) (l : Leg) : (s.setLeg k l).thermal = s.thermal := rfl
@[simp] theorem setLeg_warnSet (s : State) (k : LegNo) (l : Leg) : (s.setLeg k l).warnSet = s.warnSet := rfl
@[simp] theorem setLeg_shutdownSet (s : State) (k : LegNo) (l : Leg) : (s.setLeg k l).shutdownSet = s.shutdownSet := rfl
@[simp] theorem setLeg_supply (s : State) (k : LegNo) (l : Leg) : (s.setLeg k l).supply = s.supply := rfl
@[simp] theorem setLeg_insideOuter (s : State) (k : LegNo) (l : Leg) : (s.setLeg k l).insideOuter = s.insideOuter := rfl
@[simp] theorem setLeg_armed (s : State) (k : LegNo) (l : Leg) : (s.setLeg k l).armed = s.armed := rfl
@[simp] theorem setLeg_holdOn (s : State) (k : LegNo) (l : Leg) : (s.setLeg k l).holdOn = s.holdOn := rfl
@[simp] theorem setLeg_flags (s : State) (k : LegNo) (l : Leg) : (s.setLeg k l).flags = s.flags := rfl
@[simp] theorem setLeg_mask (s : State) (k : LegNo) (l : Leg) : (s.setLeg k l).mask = s.mask := rfl
@[simp] theorem setLeg_emptyView (s : State) (k : LegNo) (l : Leg) : (s.setLeg k l).emptyView = s.emptyView := rfl
@[simp] theorem setLeg_port (s : State) (k : LegNo) (l : Leg) : (s.setLeg k l).port = s.port := rfl
@[simp] theorem setLeg_shadowFinal (s : State) (k : LegNo) (l : Leg) : (s.setLeg k l).shadowFinal = s.shadowFinal := rfl
@[simp] theorem setLeg_shadowDriven (s : State) (k : LegNo) (l : Leg) : (s.setLeg k l).shadowDriven = s.shadowDriven := rfl
@[simp] theorem setLeg_shadowPosition (s : State) (k : LegNo) (l : Leg) : (s.setLeg k l).shadowPosition = s.shadowPosition := rfl
@[simp] theorem setLeg_cmdArg (s : State) (k : LegNo) (l : Leg) : (s.setLeg k l).cmdArg = s.cmdArg := rfl
@[simp] theorem setLeg_cmdValue (s : State) (k : LegNo) (l : Leg) : (s.setLeg k l).cmdValue = s.cmdValue := rfl
@[simp] theorem setLeg_cmdResult (s : State) (k : LegNo) (l : Leg) : (s.setLeg k l).cmdResult = s.cmdResult := rfl
@[simp] theorem setLeg_cmdDetail (s : State) (k : LegNo) (l : Leg) : (s.setLeg k l).cmdDetail = s.cmdDetail := rfl
@[simp] theorem setLeg_arrivals (s : State) (k : LegNo) (l : Leg) : (s.setLeg k l).arrivals = s.arrivals := rfl
@[simp] theorem setLeg_serial (s : State) (k : LegNo) (l : Leg) : (s.setLeg k l).serial = s.serial := rfl
@[simp] theorem setLeg_restartRun (s : State) (k : LegNo) (l : Leg) : (s.setLeg k l).restartRun = s.restartRun := rfl
@[simp] theorem setLeg_pending (s : State) (k : LegNo) (l : Leg) : (s.setLeg k l).pending = s.pending := rfl
@[simp] theorem setLeg_actAt (s : State) (k : LegNo) (l : Leg) (j : ActNo) : (s.setLeg k l).act j = s.act j := by
  simp only [State.act, State.setLeg]
@[simp] theorem setLeg_slotAt (s : State) (k : LegNo) (l : Leg) (j : SlotNo) : (s.setLeg k l).slot j = s.slot j := by
  simp only [State.slot, State.setLeg]

/-! ### mapActs -/

@[simp] theorem mapActs_inReset (s : State) (f : ActNo → Actuator → Actuator) : (s.mapActs f).inReset = s.inReset := by
  simp only [State.mapActs]
@[simp] theorem mapActs_actSel (s : State) (f : ActNo → Actuator → Actuator) : (s.mapActs f).actSel = s.actSel := by
  simp only [State.mapActs]
@[simp] theorem mapActs_page (s : State) (f : ActNo → Actuator → Actuator) : (s.mapActs f).page = s.page := by
  simp only [State.mapActs]
@[simp] theorem mapActs_applyResult (s : State) (f : ActNo → Actuator → Actuator) : (s.mapActs f).applyResult = s.applyResult := by
  simp only [State.mapActs]
@[simp] theorem mapActs_legs (s : State) (f : ActNo → Actuator → Actuator) : (s.mapActs f).legs = s.legs := by
  simp only [State.mapActs]
@[simp] theorem mapActs_slots (s : State) (f : ActNo → Actuator → Actuator) : (s.mapActs f).slots = s.slots := by
  simp only [State.mapActs]
@[simp] theorem mapActs_acceptance (s : State) (f : ActNo → Actuator → Actuator) : (s.mapActs f).acceptance = s.acceptance := by
  simp only [State.mapActs]
@[simp] theorem mapActs_completion (s : State) (f : ActNo → Actuator → Actuator) : (s.mapActs f).completion = s.completion := by
  simp only [State.mapActs]
@[simp] theorem mapActs_staging (s : State) (f : ActNo → Actuator → Actuator) : (s.mapActs f).staging = s.staging := by
  simp only [State.mapActs]
@[simp] theorem mapActs_submitResult (s : State) (f : ActNo → Actuator → Actuator) : (s.mapActs f).submitResult = s.submitResult := by
  simp only [State.mapActs]
@[simp] theorem mapActs_assignedSlot (s : State) (f : ActNo → Actuator → Actuator) : (s.mapActs f).assignedSlot = s.assignedSlot := by
  simp only [State.mapActs]
@[simp] theorem mapActs_slotSel (s : State) (f : ActNo → Actuator → Actuator) : (s.mapActs f).slotSel = s.slotSel := by
  simp only [State.mapActs]
@[simp] theorem mapActs_running (s : State) (f : ActNo → Actuator → Actuator) : (s.mapActs f).running = s.running := by
  simp only [State.mapActs]
@[simp] theorem mapActs_grant (s : State) (f : ActNo → Actuator → Actuator) : (s.mapActs f).grant = s.grant := by
  simp only [State.mapActs]
@[simp] theorem mapActs_settings (s : State) (f : ActNo → Actuator → Actuator) : (s.mapActs f).settings = s.settings := by
  simp only [State.mapActs]
@[simp] theorem mapActs_speeds (s : State) (f : ActNo → Actuator → Actuator) : (s.mapActs f).speeds = s.speeds := by
  simp only [State.mapActs]
@[simp] theorem mapActs_thermal (s : State) (f : ActNo → Actuator → Actuator) : (s.mapActs f).thermal = s.thermal := by
  simp only [State.mapActs]
@[simp] theorem mapActs_warnSet (s : State) (f : ActNo → Actuator → Actuator) : (s.mapActs f).warnSet = s.warnSet := by
  simp only [State.mapActs]
@[simp] theorem mapActs_shutdownSet (s : State) (f : ActNo → Actuator → Actuator) : (s.mapActs f).shutdownSet = s.shutdownSet := by
  simp only [State.mapActs]
@[simp] theorem mapActs_supply (s : State) (f : ActNo → Actuator → Actuator) : (s.mapActs f).supply = s.supply := by
  simp only [State.mapActs]
@[simp] theorem mapActs_insideOuter (s : State) (f : ActNo → Actuator → Actuator) : (s.mapActs f).insideOuter = s.insideOuter := by
  simp only [State.mapActs]
@[simp] theorem mapActs_armed (s : State) (f : ActNo → Actuator → Actuator) : (s.mapActs f).armed = s.armed := by
  simp only [State.mapActs]
@[simp] theorem mapActs_holdOn (s : State) (f : ActNo → Actuator → Actuator) : (s.mapActs f).holdOn = s.holdOn := by
  simp only [State.mapActs]
@[simp] theorem mapActs_flags (s : State) (f : ActNo → Actuator → Actuator) : (s.mapActs f).flags = s.flags := by
  simp only [State.mapActs]
@[simp] theorem mapActs_mask (s : State) (f : ActNo → Actuator → Actuator) : (s.mapActs f).mask = s.mask := by
  simp only [State.mapActs]
@[simp] theorem mapActs_emptyView (s : State) (f : ActNo → Actuator → Actuator) : (s.mapActs f).emptyView = s.emptyView := by
  simp only [State.mapActs]
@[simp] theorem mapActs_port (s : State) (f : ActNo → Actuator → Actuator) : (s.mapActs f).port = s.port := by
  simp only [State.mapActs]
@[simp] theorem mapActs_shadowFinal (s : State) (f : ActNo → Actuator → Actuator) : (s.mapActs f).shadowFinal = s.shadowFinal := by
  simp only [State.mapActs]
@[simp] theorem mapActs_shadowDriven (s : State) (f : ActNo → Actuator → Actuator) : (s.mapActs f).shadowDriven = s.shadowDriven := by
  simp only [State.mapActs]
@[simp] theorem mapActs_shadowPosition (s : State) (f : ActNo → Actuator → Actuator) : (s.mapActs f).shadowPosition = s.shadowPosition := by
  simp only [State.mapActs]
@[simp] theorem mapActs_cmdArg (s : State) (f : ActNo → Actuator → Actuator) : (s.mapActs f).cmdArg = s.cmdArg := by
  simp only [State.mapActs]
@[simp] theorem mapActs_cmdValue (s : State) (f : ActNo → Actuator → Actuator) : (s.mapActs f).cmdValue = s.cmdValue := by
  simp only [State.mapActs]
@[simp] theorem mapActs_cmdResult (s : State) (f : ActNo → Actuator → Actuator) : (s.mapActs f).cmdResult = s.cmdResult := by
  simp only [State.mapActs]
@[simp] theorem mapActs_cmdDetail (s : State) (f : ActNo → Actuator → Actuator) : (s.mapActs f).cmdDetail = s.cmdDetail := by
  simp only [State.mapActs]
@[simp] theorem mapActs_arrivals (s : State) (f : ActNo → Actuator → Actuator) : (s.mapActs f).arrivals = s.arrivals := by
  simp only [State.mapActs]
@[simp] theorem mapActs_serial (s : State) (f : ActNo → Actuator → Actuator) : (s.mapActs f).serial = s.serial := by
  simp only [State.mapActs]
@[simp] theorem mapActs_restartRun (s : State) (f : ActNo → Actuator → Actuator) : (s.mapActs f).restartRun = s.restartRun := by
  simp only [State.mapActs]
@[simp] theorem mapActs_pending (s : State) (f : ActNo → Actuator → Actuator) : (s.mapActs f).pending = s.pending := by
  simp only [State.mapActs]
@[simp] theorem mapActs_slotAt (s : State) (f : ActNo → Actuator → Actuator) (j : SlotNo) : (s.mapActs f).slot j = s.slot j := by
  simp only [State.slot, State.mapActs]
@[simp] theorem mapActs_legAt (s : State) (f : ActNo → Actuator → Actuator) (j : LegNo) : (s.mapActs f).leg j = s.leg j := by
  simp only [State.leg, State.mapActs]

/-! ### mapSlots -/

@[simp] theorem mapSlots_inReset (s : State) (f : SlotNo → SlotState → SlotState) : (s.mapSlots f).inReset = s.inReset := by
  simp only [State.mapSlots]
@[simp] theorem mapSlots_acts (s : State) (f : SlotNo → SlotState → SlotState) : (s.mapSlots f).acts = s.acts := by
  simp only [State.mapSlots]
@[simp] theorem mapSlots_actSel (s : State) (f : SlotNo → SlotState → SlotState) : (s.mapSlots f).actSel = s.actSel := by
  simp only [State.mapSlots]
@[simp] theorem mapSlots_page (s : State) (f : SlotNo → SlotState → SlotState) : (s.mapSlots f).page = s.page := by
  simp only [State.mapSlots]
@[simp] theorem mapSlots_applyResult (s : State) (f : SlotNo → SlotState → SlotState) : (s.mapSlots f).applyResult = s.applyResult := by
  simp only [State.mapSlots]
@[simp] theorem mapSlots_legs (s : State) (f : SlotNo → SlotState → SlotState) : (s.mapSlots f).legs = s.legs := by
  simp only [State.mapSlots]
@[simp] theorem mapSlots_acceptance (s : State) (f : SlotNo → SlotState → SlotState) : (s.mapSlots f).acceptance = s.acceptance := by
  simp only [State.mapSlots]
@[simp] theorem mapSlots_completion (s : State) (f : SlotNo → SlotState → SlotState) : (s.mapSlots f).completion = s.completion := by
  simp only [State.mapSlots]
@[simp] theorem mapSlots_staging (s : State) (f : SlotNo → SlotState → SlotState) : (s.mapSlots f).staging = s.staging := by
  simp only [State.mapSlots]
@[simp] theorem mapSlots_submitResult (s : State) (f : SlotNo → SlotState → SlotState) : (s.mapSlots f).submitResult = s.submitResult := by
  simp only [State.mapSlots]
@[simp] theorem mapSlots_assignedSlot (s : State) (f : SlotNo → SlotState → SlotState) : (s.mapSlots f).assignedSlot = s.assignedSlot := by
  simp only [State.mapSlots]
@[simp] theorem mapSlots_slotSel (s : State) (f : SlotNo → SlotState → SlotState) : (s.mapSlots f).slotSel = s.slotSel := by
  simp only [State.mapSlots]
@[simp] theorem mapSlots_running (s : State) (f : SlotNo → SlotState → SlotState) : (s.mapSlots f).running = s.running := by
  simp only [State.mapSlots]
@[simp] theorem mapSlots_grant (s : State) (f : SlotNo → SlotState → SlotState) : (s.mapSlots f).grant = s.grant := by
  simp only [State.mapSlots]
@[simp] theorem mapSlots_settings (s : State) (f : SlotNo → SlotState → SlotState) : (s.mapSlots f).settings = s.settings := by
  simp only [State.mapSlots]
@[simp] theorem mapSlots_speeds (s : State) (f : SlotNo → SlotState → SlotState) : (s.mapSlots f).speeds = s.speeds := by
  simp only [State.mapSlots]
@[simp] theorem mapSlots_thermal (s : State) (f : SlotNo → SlotState → SlotState) : (s.mapSlots f).thermal = s.thermal := by
  simp only [State.mapSlots]
@[simp] theorem mapSlots_warnSet (s : State) (f : SlotNo → SlotState → SlotState) : (s.mapSlots f).warnSet = s.warnSet := by
  simp only [State.mapSlots]
@[simp] theorem mapSlots_shutdownSet (s : State) (f : SlotNo → SlotState → SlotState) : (s.mapSlots f).shutdownSet = s.shutdownSet := by
  simp only [State.mapSlots]
@[simp] theorem mapSlots_supply (s : State) (f : SlotNo → SlotState → SlotState) : (s.mapSlots f).supply = s.supply := by
  simp only [State.mapSlots]
@[simp] theorem mapSlots_insideOuter (s : State) (f : SlotNo → SlotState → SlotState) : (s.mapSlots f).insideOuter = s.insideOuter := by
  simp only [State.mapSlots]
@[simp] theorem mapSlots_armed (s : State) (f : SlotNo → SlotState → SlotState) : (s.mapSlots f).armed = s.armed := by
  simp only [State.mapSlots]
@[simp] theorem mapSlots_holdOn (s : State) (f : SlotNo → SlotState → SlotState) : (s.mapSlots f).holdOn = s.holdOn := by
  simp only [State.mapSlots]
@[simp] theorem mapSlots_flags (s : State) (f : SlotNo → SlotState → SlotState) : (s.mapSlots f).flags = s.flags := by
  simp only [State.mapSlots]
@[simp] theorem mapSlots_mask (s : State) (f : SlotNo → SlotState → SlotState) : (s.mapSlots f).mask = s.mask := by
  simp only [State.mapSlots]
@[simp] theorem mapSlots_emptyView (s : State) (f : SlotNo → SlotState → SlotState) : (s.mapSlots f).emptyView = s.emptyView := by
  simp only [State.mapSlots]
@[simp] theorem mapSlots_port (s : State) (f : SlotNo → SlotState → SlotState) : (s.mapSlots f).port = s.port := by
  simp only [State.mapSlots]
@[simp] theorem mapSlots_shadowFinal (s : State) (f : SlotNo → SlotState → SlotState) : (s.mapSlots f).shadowFinal = s.shadowFinal := by
  simp only [State.mapSlots]
@[simp] theorem mapSlots_shadowDriven (s : State) (f : SlotNo → SlotState → SlotState) : (s.mapSlots f).shadowDriven = s.shadowDriven := by
  simp only [State.mapSlots]
@[simp] theorem mapSlots_shadowPosition (s : State) (f : SlotNo → SlotState → SlotState) : (s.mapSlots f).shadowPosition = s.shadowPosition := by
  simp only [State.mapSlots]
@[simp] theorem mapSlots_cmdArg (s : State) (f : SlotNo → SlotState → SlotState) : (s.mapSlots f).cmdArg = s.cmdArg := by
  simp only [State.mapSlots]
@[simp] theorem mapSlots_cmdValue (s : State) (f : SlotNo → SlotState → SlotState) : (s.mapSlots f).cmdValue = s.cmdValue := by
  simp only [State.mapSlots]
@[simp] theorem mapSlots_cmdResult (s : State) (f : SlotNo → SlotState → SlotState) : (s.mapSlots f).cmdResult = s.cmdResult := by
  simp only [State.mapSlots]
@[simp] theorem mapSlots_cmdDetail (s : State) (f : SlotNo → SlotState → SlotState) : (s.mapSlots f).cmdDetail = s.cmdDetail := by
  simp only [State.mapSlots]
@[simp] theorem mapSlots_arrivals (s : State) (f : SlotNo → SlotState → SlotState) : (s.mapSlots f).arrivals = s.arrivals := by
  simp only [State.mapSlots]
@[simp] theorem mapSlots_serial (s : State) (f : SlotNo → SlotState → SlotState) : (s.mapSlots f).serial = s.serial := by
  simp only [State.mapSlots]
@[simp] theorem mapSlots_restartRun (s : State) (f : SlotNo → SlotState → SlotState) : (s.mapSlots f).restartRun = s.restartRun := by
  simp only [State.mapSlots]
@[simp] theorem mapSlots_pending (s : State) (f : SlotNo → SlotState → SlotState) : (s.mapSlots f).pending = s.pending := by
  simp only [State.mapSlots]
@[simp] theorem mapSlots_actAt (s : State) (f : SlotNo → SlotState → SlotState) (j : ActNo) : (s.mapSlots f).act j = s.act j := by
  simp only [State.act, State.mapSlots]
@[simp] theorem mapSlots_legAt (s : State) (f : SlotNo → SlotState → SlotState) (j : LegNo) : (s.mapSlots f).leg j = s.leg j := by
  simp only [State.leg, State.mapSlots]

/-! ### mapLegs -/

@[simp] theorem mapLegs_inReset (s : State) (f : LegNo → Leg → Leg) : (s.mapLegs f).inReset = s.inReset := by
  simp only [State.mapLegs]
@[simp] theorem mapLegs_acts (s : State) (f : LegNo → Leg → Leg) : (s.mapLegs f).acts = s.acts := by
  simp only [State.mapLegs]
@[simp] theorem mapLegs_actSel (s : State) (f : LegNo → Leg → Leg) : (s.mapLegs f).actSel = s.actSel := by
  simp only [State.mapLegs]
@[simp] theorem mapLegs_page (s : State) (f : LegNo → Leg → Leg) : (s.mapLegs f).page = s.page := by
  simp only [State.mapLegs]
@[simp] theorem mapLegs_applyResult (s : State) (f : LegNo → Leg → Leg) : (s.mapLegs f).applyResult = s.applyResult := by
  simp only [State.mapLegs]
@[simp] theorem mapLegs_slots (s : State) (f : LegNo → Leg → Leg) : (s.mapLegs f).slots = s.slots := by
  simp only [State.mapLegs]
@[simp] theorem mapLegs_acceptance (s : State) (f : LegNo → Leg → Leg) : (s.mapLegs f).acceptance = s.acceptance := by
  simp only [State.mapLegs]
@[simp] theorem mapLegs_completion (s : State) (f : LegNo → Leg → Leg) : (s.mapLegs f).completion = s.completion := by
  simp only [State.mapLegs]
@[simp] theorem mapLegs_staging (s : State) (f : LegNo → Leg → Leg) : (s.mapLegs f).staging = s.staging := by
  simp only [State.mapLegs]
@[simp] theorem mapLegs_submitResult (s : State) (f : LegNo → Leg → Leg) : (s.mapLegs f).submitResult = s.submitResult := by
  simp only [State.mapLegs]
@[simp] theorem mapLegs_assignedSlot (s : State) (f : LegNo → Leg → Leg) : (s.mapLegs f).assignedSlot = s.assignedSlot := by
  simp only [State.mapLegs]
@[simp] theorem mapLegs_slotSel (s : State) (f : LegNo → Leg → Leg) : (s.mapLegs f).slotSel = s.slotSel := by
  simp only [State.mapLegs]
@[simp] theorem mapLegs_running (s : State) (f : LegNo → Leg → Leg) : (s.mapLegs f).running = s.running := by
  simp only [State.mapLegs]
@[simp] theorem mapLegs_grant (s : State) (f : LegNo → Leg → Leg) : (s.mapLegs f).grant = s.grant := by
  simp only [State.mapLegs]
@[simp] theorem mapLegs_settings (s : State) (f : LegNo → Leg → Leg) : (s.mapLegs f).settings = s.settings := by
  simp only [State.mapLegs]
@[simp] theorem mapLegs_speeds (s : State) (f : LegNo → Leg → Leg) : (s.mapLegs f).speeds = s.speeds := by
  simp only [State.mapLegs]
@[simp] theorem mapLegs_thermal (s : State) (f : LegNo → Leg → Leg) : (s.mapLegs f).thermal = s.thermal := by
  simp only [State.mapLegs]
@[simp] theorem mapLegs_warnSet (s : State) (f : LegNo → Leg → Leg) : (s.mapLegs f).warnSet = s.warnSet := by
  simp only [State.mapLegs]
@[simp] theorem mapLegs_shutdownSet (s : State) (f : LegNo → Leg → Leg) : (s.mapLegs f).shutdownSet = s.shutdownSet := by
  simp only [State.mapLegs]
@[simp] theorem mapLegs_supply (s : State) (f : LegNo → Leg → Leg) : (s.mapLegs f).supply = s.supply := by
  simp only [State.mapLegs]
@[simp] theorem mapLegs_insideOuter (s : State) (f : LegNo → Leg → Leg) : (s.mapLegs f).insideOuter = s.insideOuter := by
  simp only [State.mapLegs]
@[simp] theorem mapLegs_armed (s : State) (f : LegNo → Leg → Leg) : (s.mapLegs f).armed = s.armed := by
  simp only [State.mapLegs]
@[simp] theorem mapLegs_holdOn (s : State) (f : LegNo → Leg → Leg) : (s.mapLegs f).holdOn = s.holdOn := by
  simp only [State.mapLegs]
@[simp] theorem mapLegs_flags (s : State) (f : LegNo → Leg → Leg) : (s.mapLegs f).flags = s.flags := by
  simp only [State.mapLegs]
@[simp] theorem mapLegs_mask (s : State) (f : LegNo → Leg → Leg) : (s.mapLegs f).mask = s.mask := by
  simp only [State.mapLegs]
@[simp] theorem mapLegs_emptyView (s : State) (f : LegNo → Leg → Leg) : (s.mapLegs f).emptyView = s.emptyView := by
  simp only [State.mapLegs]
@[simp] theorem mapLegs_port (s : State) (f : LegNo → Leg → Leg) : (s.mapLegs f).port = s.port := by
  simp only [State.mapLegs]
@[simp] theorem mapLegs_shadowFinal (s : State) (f : LegNo → Leg → Leg) : (s.mapLegs f).shadowFinal = s.shadowFinal := by
  simp only [State.mapLegs]
@[simp] theorem mapLegs_shadowDriven (s : State) (f : LegNo → Leg → Leg) : (s.mapLegs f).shadowDriven = s.shadowDriven := by
  simp only [State.mapLegs]
@[simp] theorem mapLegs_shadowPosition (s : State) (f : LegNo → Leg → Leg) : (s.mapLegs f).shadowPosition = s.shadowPosition := by
  simp only [State.mapLegs]
@[simp] theorem mapLegs_cmdArg (s : State) (f : LegNo → Leg → Leg) : (s.mapLegs f).cmdArg = s.cmdArg := by
  simp only [State.mapLegs]
@[simp] theorem mapLegs_cmdValue (s : State) (f : LegNo → Leg → Leg) : (s.mapLegs f).cmdValue = s.cmdValue := by
  simp only [State.mapLegs]
@[simp] theorem mapLegs_cmdResult (s : State) (f : LegNo → Leg → Leg) : (s.mapLegs f).cmdResult = s.cmdResult := by
  simp only [State.mapLegs]
@[simp] theorem mapLegs_cmdDetail (s : State) (f : LegNo → Leg → Leg) : (s.mapLegs f).cmdDetail = s.cmdDetail := by
  simp only [State.mapLegs]
@[simp] theorem mapLegs_arrivals (s : State) (f : LegNo → Leg → Leg) : (s.mapLegs f).arrivals = s.arrivals := by
  simp only [State.mapLegs]
@[simp] theorem mapLegs_serial (s : State) (f : LegNo → Leg → Leg) : (s.mapLegs f).serial = s.serial := by
  simp only [State.mapLegs]
@[simp] theorem mapLegs_restartRun (s : State) (f : LegNo → Leg → Leg) : (s.mapLegs f).restartRun = s.restartRun := by
  simp only [State.mapLegs]
@[simp] theorem mapLegs_pending (s : State) (f : LegNo → Leg → Leg) : (s.mapLegs f).pending = s.pending := by
  simp only [State.mapLegs]
@[simp] theorem mapLegs_actAt (s : State) (f : LegNo → Leg → Leg) (j : ActNo) : (s.mapLegs f).act j = s.act j := by
  simp only [State.act, State.mapLegs]
@[simp] theorem mapLegs_slotAt (s : State) (f : LegNo → Leg → Leg) (j : SlotNo) : (s.mapLegs f).slot j = s.slot j := by
  simp only [State.slot, State.mapLegs]

/-! ### setFlag -/

@[simp] theorem setFlag_inReset (s : State) (f : Flag) : (s.setFlag f).inReset = s.inReset := rfl
@[simp] theorem setFlag_acts (s : State) (f : Flag) : (s.setFlag f).acts = s.acts := rfl
@[simp] theorem setFlag_actSel (s : State) (f : Flag) : (s.setFlag f).actSel = s.actSel := rfl
@[simp] theorem setFlag_page (s : State) (f : Flag) : (s.setFlag f).page = s.page := rfl
@[simp] theorem setFlag_applyResult (s : State) (f : Flag) : (s.setFlag f).applyResult = s.applyResult := rfl
@[simp] theorem setFlag_legs (s : State) (f : Flag) : (s.setFlag f).legs = s.legs := rfl
@[simp] theorem setFlag_slots (s : State) (f : Flag) : (s.setFlag f).slots = s.slots := rfl
@[simp] theorem setFlag_acceptance (s : State) (f : Flag) : (s.setFlag f).acceptance = s.acceptance := rfl
@[simp] theorem setFlag_completion (s : State) (f : Flag) : (s.setFlag f).completion = s.completion := rfl
@[simp] theorem setFlag_staging (s : State) (f : Flag) : (s.setFlag f).staging = s.staging := rfl
@[simp] theorem setFlag_submitResult (s : State) (f : Flag) : (s.setFlag f).submitResult = s.submitResult := rfl
@[simp] theorem setFlag_assignedSlot (s : State) (f : Flag) : (s.setFlag f).assignedSlot = s.assignedSlot := rfl
@[simp] theorem setFlag_slotSel (s : State) (f : Flag) : (s.setFlag f).slotSel = s.slotSel := rfl
@[simp] theorem setFlag_running (s : State) (f : Flag) : (s.setFlag f).running = s.running := rfl
@[simp] theorem setFlag_grant (s : State) (f : Flag) : (s.setFlag f).grant = s.grant := rfl
@[simp] theorem setFlag_settings (s : State) (f : Flag) : (s.setFlag f).settings = s.settings := rfl
@[simp] theorem setFlag_speeds (s : State) (f : Flag) : (s.setFlag f).speeds = s.speeds := rfl
@[simp] theorem setFlag_thermal (s : State) (f : Flag) : (s.setFlag f).thermal = s.thermal := rfl
@[simp] theorem setFlag_warnSet (s : State) (f : Flag) : (s.setFlag f).warnSet = s.warnSet := rfl
@[simp] theorem setFlag_shutdownSet (s : State) (f : Flag) : (s.setFlag f).shutdownSet = s.shutdownSet := rfl
@[simp] theorem setFlag_supply (s : State) (f : Flag) : (s.setFlag f).supply = s.supply := rfl
@[simp] theorem setFlag_insideOuter (s : State) (f : Flag) : (s.setFlag f).insideOuter = s.insideOuter := rfl
@[simp] theorem setFlag_armed (s : State) (f : Flag) : (s.setFlag f).armed = s.armed := rfl
@[simp] theorem setFlag_holdOn (s : State) (f : Flag) : (s.setFlag f).holdOn = s.holdOn := rfl
@[simp] theorem setFlag_mask (s : State) (f : Flag) : (s.setFlag f).mask = s.mask := rfl
@[simp] theorem setFlag_emptyView (s : State) (f : Flag) : (s.setFlag f).emptyView = s.emptyView := rfl
@[simp] theorem setFlag_port (s : State) (f : Flag) : (s.setFlag f).port = s.port := rfl
@[simp] theorem setFlag_shadowFinal (s : State) (f : Flag) : (s.setFlag f).shadowFinal = s.shadowFinal := rfl
@[simp] theorem setFlag_shadowDriven (s : State) (f : Flag) : (s.setFlag f).shadowDriven = s.shadowDriven := rfl
@[simp] theorem setFlag_shadowPosition (s : State) (f : Flag) : (s.setFlag f).shadowPosition = s.shadowPosition := rfl
@[simp] theorem setFlag_cmdArg (s : State) (f : Flag) : (s.setFlag f).cmdArg = s.cmdArg := rfl
@[simp] theorem setFlag_cmdValue (s : State) (f : Flag) : (s.setFlag f).cmdValue = s.cmdValue := rfl
@[simp] theorem setFlag_cmdResult (s : State) (f : Flag) : (s.setFlag f).cmdResult = s.cmdResult := rfl
@[simp] theorem setFlag_cmdDetail (s : State) (f : Flag) : (s.setFlag f).cmdDetail = s.cmdDetail := rfl
@[simp] theorem setFlag_arrivals (s : State) (f : Flag) : (s.setFlag f).arrivals = s.arrivals := rfl
@[simp] theorem setFlag_serial (s : State) (f : Flag) : (s.setFlag f).serial = s.serial := rfl
@[simp] theorem setFlag_restartRun (s : State) (f : Flag) : (s.setFlag f).restartRun = s.restartRun := rfl
@[simp] theorem setFlag_pending (s : State) (f : Flag) : (s.setFlag f).pending = s.pending := rfl
@[simp] theorem setFlag_actAt (s : State) (f : Flag) (j : ActNo) : (s.setFlag f).act j = s.act j := by
  simp only [State.act, State.setFlag]
@[simp] theorem setFlag_slotAt (s : State) (f : Flag) (j : SlotNo) : (s.setFlag f).slot j = s.slot j := by
  simp only [State.slot, State.setFlag]
@[simp] theorem setFlag_legAt (s : State) (f : Flag) (j : LegNo) : (s.setFlag f).leg j = s.leg j := by
  simp only [State.leg, State.setFlag]

/-! ### clearFlags -/

@[simp] theorem clearFlags_inReset (s : State) (w : Half) : (s.clearFlags w).inReset = s.inReset := rfl
@[simp] theorem clearFlags_acts (s : State) (w : Half) : (s.clearFlags w).acts = s.acts := rfl
@[simp] theorem clearFlags_actSel (s : State) (w : Half) : (s.clearFlags w).actSel = s.actSel := rfl
@[simp] theorem clearFlags_page (s : State) (w : Half) : (s.clearFlags w).page = s.page := rfl
@[simp] theorem clearFlags_applyResult (s : State) (w : Half) : (s.clearFlags w).applyResult = s.applyResult := rfl
@[simp] theorem clearFlags_legs (s : State) (w : Half) : (s.clearFlags w).legs = s.legs := rfl
@[simp] theorem clearFlags_slots (s : State) (w : Half) : (s.clearFlags w).slots = s.slots := rfl
@[simp] theorem clearFlags_acceptance (s : State) (w : Half) : (s.clearFlags w).acceptance = s.acceptance := rfl
@[simp] theorem clearFlags_completion (s : State) (w : Half) : (s.clearFlags w).completion = s.completion := rfl
@[simp] theorem clearFlags_staging (s : State) (w : Half) : (s.clearFlags w).staging = s.staging := rfl
@[simp] theorem clearFlags_submitResult (s : State) (w : Half) : (s.clearFlags w).submitResult = s.submitResult := rfl
@[simp] theorem clearFlags_assignedSlot (s : State) (w : Half) : (s.clearFlags w).assignedSlot = s.assignedSlot := rfl
@[simp] theorem clearFlags_slotSel (s : State) (w : Half) : (s.clearFlags w).slotSel = s.slotSel := rfl
@[simp] theorem clearFlags_running (s : State) (w : Half) : (s.clearFlags w).running = s.running := rfl
@[simp] theorem clearFlags_grant (s : State) (w : Half) : (s.clearFlags w).grant = s.grant := rfl
@[simp] theorem clearFlags_settings (s : State) (w : Half) : (s.clearFlags w).settings = s.settings := rfl
@[simp] theorem clearFlags_speeds (s : State) (w : Half) : (s.clearFlags w).speeds = s.speeds := rfl
@[simp] theorem clearFlags_thermal (s : State) (w : Half) : (s.clearFlags w).thermal = s.thermal := rfl
@[simp] theorem clearFlags_warnSet (s : State) (w : Half) : (s.clearFlags w).warnSet = s.warnSet := rfl
@[simp] theorem clearFlags_shutdownSet (s : State) (w : Half) : (s.clearFlags w).shutdownSet = s.shutdownSet := rfl
@[simp] theorem clearFlags_supply (s : State) (w : Half) : (s.clearFlags w).supply = s.supply := rfl
@[simp] theorem clearFlags_insideOuter (s : State) (w : Half) : (s.clearFlags w).insideOuter = s.insideOuter := rfl
@[simp] theorem clearFlags_armed (s : State) (w : Half) : (s.clearFlags w).armed = s.armed := rfl
@[simp] theorem clearFlags_holdOn (s : State) (w : Half) : (s.clearFlags w).holdOn = s.holdOn := rfl
@[simp] theorem clearFlags_mask (s : State) (w : Half) : (s.clearFlags w).mask = s.mask := rfl
@[simp] theorem clearFlags_emptyView (s : State) (w : Half) : (s.clearFlags w).emptyView = s.emptyView := rfl
@[simp] theorem clearFlags_port (s : State) (w : Half) : (s.clearFlags w).port = s.port := rfl
@[simp] theorem clearFlags_shadowFinal (s : State) (w : Half) : (s.clearFlags w).shadowFinal = s.shadowFinal := rfl
@[simp] theorem clearFlags_shadowDriven (s : State) (w : Half) : (s.clearFlags w).shadowDriven = s.shadowDriven := rfl
@[simp] theorem clearFlags_shadowPosition (s : State) (w : Half) : (s.clearFlags w).shadowPosition = s.shadowPosition := rfl
@[simp] theorem clearFlags_cmdArg (s : State) (w : Half) : (s.clearFlags w).cmdArg = s.cmdArg := rfl
@[simp] theorem clearFlags_cmdValue (s : State) (w : Half) : (s.clearFlags w).cmdValue = s.cmdValue := rfl
@[simp] theorem clearFlags_cmdResult (s : State) (w : Half) : (s.clearFlags w).cmdResult = s.cmdResult := rfl
@[simp] theorem clearFlags_cmdDetail (s : State) (w : Half) : (s.clearFlags w).cmdDetail = s.cmdDetail := rfl
@[simp] theorem clearFlags_arrivals (s : State) (w : Half) : (s.clearFlags w).arrivals = s.arrivals := rfl
@[simp] theorem clearFlags_serial (s : State) (w : Half) : (s.clearFlags w).serial = s.serial := rfl
@[simp] theorem clearFlags_restartRun (s : State) (w : Half) : (s.clearFlags w).restartRun = s.restartRun := rfl
@[simp] theorem clearFlags_pending (s : State) (w : Half) : (s.clearFlags w).pending = s.pending := rfl
@[simp] theorem clearFlags_actAt (s : State) (w : Half) (j : ActNo) : (s.clearFlags w).act j = s.act j := by
  simp only [State.act, State.clearFlags]
@[simp] theorem clearFlags_slotAt (s : State) (w : Half) (j : SlotNo) : (s.clearFlags w).slot j = s.slot j := by
  simp only [State.slot, State.clearFlags]
@[simp] theorem clearFlags_legAt (s : State) (w : Half) (j : LegNo) : (s.clearFlags w).leg j = s.leg j := by
  simp only [State.leg, State.clearFlags]

/-! ### Reading after a write -/

/-- An entry after an entry is replaced. -/
theorem act_setAct (s : State) (a b : ActNo) (e : Actuator) :
    (s.setAct a e).act b = if a = b then e else s.act b := by
  simp only [State.act, State.setAct, Fin.getElem_fin, Vector.getElem_set, Fin.val_inj]

/-- A slot after a slot is replaced. -/
theorem slot_setSlot (s : State) (i j : SlotNo) (x : SlotState) :
    (s.setSlot i x).slot j = if i = j then x else s.slot j := by
  simp only [State.slot, State.setSlot, Fin.getElem_fin, Vector.getElem_set, Fin.val_inj]

/-- A leg after a leg is replaced. -/
theorem leg_setLeg (s : State) (k j : LegNo) (l : Leg) :
    (s.setLeg k l).leg j = if k = j then l else s.leg j := by
  simp only [State.leg, State.setLeg, Fin.getElem_fin, Vector.getElem_set, Fin.val_inj]

@[simp] theorem act_setAct_self (s : State) (a : ActNo) (e : Actuator) : (s.setAct a e).act a = e := by
  simp [act_setAct]

@[simp] theorem slot_setSlot_self (s : State) (i : SlotNo) (x : SlotState) : (s.setSlot i x).slot i = x := by
  simp [slot_setSlot]

@[simp] theorem leg_setLeg_self (s : State) (k : LegNo) (l : Leg) : (s.setLeg k l).leg k = l := by
  simp [leg_setLeg]

/-- Every entry after a change of all. -/
@[simp] theorem act_mapActs (s : State) (f : ActNo → Actuator → Actuator) (a : ActNo) :
    (s.mapActs f).act a = f a (s.act a) := by
  simp [State.act, State.mapActs]

/-- Every slot after a change of all. -/
@[simp] theorem slot_mapSlots (s : State) (f : SlotNo → SlotState → SlotState) (i : SlotNo) :
    (s.mapSlots f).slot i = f i (s.slot i) := by
  simp [State.slot, State.mapSlots]

/-- Every leg after a change of all. -/
@[simp] theorem leg_mapLegs (s : State) (f : LegNo → Leg → Leg) (k : LegNo) :
    (s.mapLegs f).leg k = f k (s.leg k) := by
  simp [State.leg, State.mapLegs]

/-- Every active move after a change of all. -/
@[simp] theorem slot_onMoves (s : State) (f : Order → Move → Move) (i : SlotNo) :
    (s.onMoves f).slot i = (s.slot i).mapMove f := by
  simp [State.onMoves]

/-- A slot after the active move of one slot is changed. -/
theorem slot_onMove (s : State) (i j : SlotNo) (f : Order → Move → Move) :
    (s.onMove i f).slot j = if i = j then (s.slot j).mapMove f else s.slot j := by
  rw [State.onMove, slot_setSlot]
  split
  · next h => rw [h]
  · rfl

/-- A flag set when a condition holds, written as one update. -/
theorem setFlagIf_eq (s : State) (b : Bool) (f : Flag) :
    s.setFlagIf b f = { s with flags := if b then s.flags ||| f.word else s.flags } := by
  cases b <;> rfl

/-! ### What stays true of a slot when its move changes -/

@[simp] theorem mapMove_isFree (f : Order → Move → Move) (x : SlotState) : (x.mapMove f).isFree = x.isFree := by
  cases x <;> rfl
@[simp] theorem mapMove_isQueued (f : Order → Move → Move) (x : SlotState) : (x.mapMove f).isQueued = x.isQueued := by
  cases x <;> rfl
@[simp] theorem mapMove_isActive (f : Order → Move → Move) (x : SlotState) : (x.mapMove f).isActive = x.isActive := by
  cases x <;> rfl
@[simp] theorem mapMove_isDone (f : Order → Move → Move) (x : SlotState) : (x.mapMove f).isDone = x.isDone := by
  cases x <;> rfl
@[simp] theorem mapMove_order (f : Order → Move → Move) (x : SlotState) : (x.mapMove f).order = x.order := by
  cases x <;> rfl
@[simp] theorem mapMove_ordersFor (f : Order → Move → Move) (x : SlotState) (a : ActNo) :
    (x.mapMove f).ordersFor a = x.ordersFor a := by
  cases x <;> rfl

end Sys2Proof.Machine
end

