-- ==== Sys2Proof/Laws/Frame.lean ====
section
/-! SUPPORT. What the shared operations leave unchanged: every operation on the pool, the legs and the entries stays inside `State.sameOutside`. -/

namespace Sys2Proof.Machine

theorem sameOutside_refl (s : State) : s.sameOutside s := rfl

theorem sameOutside_trans {s t u : State} (h : s.sameOutside t) (k : t.sameOutside u) : s.sameOutside u := by
  unfold State.sameOutside at *
  rw [h] at k
  exact k

theorem sameOutside_foldl {α : Type} (f : State → α → State) (h : ∀ (s : State) (x : α), s.sameOutside (f s x))
    (l : List α) :
    ∀ s : State, s.sameOutside (l.foldl f s) := by
  induction l with
  | nil => exact sameOutside_refl
  | cons x l ih => intro s; exact sameOutside_trans (h s x) (ih (f s x))

theorem sameOutside_setAct (s : State) (a : ActNo) (e : Actuator) : s.sameOutside (s.setAct a e) := rfl
theorem sameOutside_setSlot (s : State) (i : SlotNo) (x : SlotState) : s.sameOutside (s.setSlot i x) := rfl
theorem sameOutside_setLeg (s : State) (k : LegNo) (l : Leg) : s.sameOutside (s.setLeg k l) := rfl
theorem sameOutside_mapSlots (s : State) (f : SlotNo → SlotState → SlotState) : s.sameOutside (s.mapSlots f) := rfl
theorem sameOutside_mapLegs (s : State) (f : LegNo → Leg → Leg) : s.sameOutside (s.mapLegs f) := rfl
theorem sameOutside_onMove (s : State) (i : SlotNo) (f : Order → Move → Move) : s.sameOutside (s.onMove i f) :=
  sameOutside_setSlot s i _
theorem sameOutside_onMoves (s : State) (f : Order → Move → Move) : s.sameOutside (s.onMoves f) :=
  sameOutside_mapSlots s _
theorem sameOutside_setFlag (s : State) (f : Flag) : s.sameOutside (s.setFlag f) := rfl
theorem sameOutside_setFlagIf (s : State) (b : Bool) (f : Flag) : s.sameOutside (s.setFlagIf b f) := by
  cases b <;> rfl
theorem sameOutside_forOrder (s : State) (r : OrderRef) (f : SlotNo → State → State)
    (h : ∀ i, s.sameOutside (f i s)) : s.sameOutside (s.forOrder r f) := by
  unfold State.forOrder
  split
  · exact h _
  · rfl
theorem sameOutside_forTimer (s : State) (count : Move → Nat) (r : TimerRef) (f : SlotNo → State → State)
    (h : ∀ i, s.sameOutside (f i s)) : s.sameOutside (s.forTimer count r f) := by
  unfold State.forTimer
  split
  · exact sameOutside_forOrder s r.order f h
  · rfl
theorem sameOutside_forLeg (s : State) (r : LegRef) (f : LegNo → State → State)
    (h : ∀ k, s.sameOutside (f k s)) : s.sameOutside (s.forLeg r f) := by
  unfold State.forLeg
  split
  · exact h _
  · rfl
theorem sameOutside_settle (s : State) : s.sameOutside s.settle := sameOutside_mapLegs s _
theorem sameOutside_finish (s : State) (i : SlotNo) (r : Record) : s.sameOutside (s.finish i r) := rfl

theorem sameOutside_endOrder (s : State) (e : Ending) (i : SlotNo) : s.sameOutside (s.endOrder e i) := by
  unfold State.endOrder
  split <;> rfl

theorem sameOutside_endOrders (s : State) (e : Ending) (is : List SlotNo) : s.sameOutside (s.endOrders e is) :=
  sameOutside_foldl _ (fun t i => sameOutside_endOrder t e i) is s

theorem sameOutside_endBraked (s : State) (i : SlotNo) : s.sameOutside (s.endBraked i) := by
  unfold State.endBraked
  split
  · split
    · split
      · exact sameOutside_endOrder s _ i
      · rfl
    · rfl
  · rfl

theorem sameOutside_addClaim (s : State) (f : LegField) (c : Claim) : s.sameOutside (s.addClaim f c) := by
  unfold State.addClaim
  split <;> rfl

theorem sameOutside_withClaims (s : State) (i : SlotNo) (o : Order) : s.sameOutside (s.withClaims i o) :=
  sameOutside_trans (sameOutside_addClaim s _ _) (sameOutside_addClaim _ _ _)

theorem sameOutside_raiseOlder (s : State) (i : SlotNo) : s.sameOutside (s.raiseOlder i) :=
  sameOutside_trans (sameOutside_mapSlots s _) (sameOutside_setFlagIf _ _ _)

theorem sameOutside_takeGrant (s : State) (i : SlotNo) (o : Order) : s.sameOutside (s.takeGrant i o) := rfl
theorem sameOutside_link (s : State) (i : SlotNo) (a : ActNo) : s.sameOutside (s.link i a) :=
  sameOutside_setAct s a _

theorem sameOutside_startMove (s : State) (i : SlotNo) (o : Order) : s.sameOutside (s.startMove i o) :=
  sameOutside_trans (sameOutside_trans (sameOutside_trans (sameOutside_trans (sameOutside_trans
    (sameOutside_withClaims s i o) (sameOutside_takeGrant _ i o)) (sameOutside_setSlot _ i _))
    (sameOutside_link _ i _)) (sameOutside_raiseOlder _ i)) (sameOutside_settle _)

theorem sameOutside_brakeMoves (s : State) (e : Ending) (is : List SlotNo) : s.sameOutside (s.brakeMoves e is) :=
  sameOutside_foldl _ (fun t i => sameOutside_onMove t i _) is s

theorem sameOutside_withdraw (s : State) (e : Ending) (is : List SlotNo) : s.sameOutside (s.withdraw e is) :=
  sameOutside_trans (sameOutside_trans (sameOutside_brakeMoves s _ _) (sameOutside_endOrders _ _ _))
    (sameOutside_settle _)

theorem sameOutside_returnToDrive (s : State) (p : Phase) (f : Order → Move → Move) :
    s.sameOutside (s.returnToDrive p f) :=
  sameOutside_trans (sameOutside_trans (sameOutside_trans (sameOutside_onMoves s _) (sameOutside_settle _))
    (sameOutside_mapSlots _ _)) (sameOutside_settle _)

/-! ### The fields that stay -/

theorem State.sameOutside.inReset_eq {s t : State} (h : s.sameOutside t) : t.inReset = s.inReset :=
  (congrArg State.inReset h).trans rfl
theorem State.sameOutside.actSel_eq {s t : State} (h : s.sameOutside t) : t.actSel = s.actSel :=
  (congrArg State.actSel h).trans rfl
theorem State.sameOutside.page_eq {s t : State} (h : s.sameOutside t) : t.page = s.page :=
  (congrArg State.page h).trans rfl
theorem State.sameOutside.applyResult_eq {s t : State} (h : s.sameOutside t) : t.applyResult = s.applyResult :=
  (congrArg State.applyResult h).trans rfl
theorem State.sameOutside.staging_eq {s t : State} (h : s.sameOutside t) : t.staging = s.staging :=
  (congrArg State.staging h).trans rfl
theorem State.sameOutside.submitResult_eq {s t : State} (h : s.sameOutside t) : t.submitResult = s.submitResult :=
  (congrArg State.submitResult h).trans rfl
theorem State.sameOutside.assignedSlot_eq {s t : State} (h : s.sameOutside t) : t.assignedSlot = s.assignedSlot :=
  (congrArg State.assignedSlot h).trans rfl
theorem State.sameOutside.slotSel_eq {s t : State} (h : s.sameOutside t) : t.slotSel = s.slotSel :=
  (congrArg State.slotSel h).trans rfl
theorem State.sameOutside.running_eq {s t : State} (h : s.sameOutside t) : t.running = s.running :=
  (congrArg State.running h).trans rfl
theorem State.sameOutside.settings_eq {s t : State} (h : s.sameOutside t) : t.settings = s.settings :=
  (congrArg State.settings h).trans rfl
theorem State.sameOutside.speeds_eq {s t : State} (h : s.sameOutside t) : t.speeds = s.speeds :=
  (congrArg State.speeds h).trans rfl
theorem State.sameOutside.thermal_eq {s t : State} (h : s.sameOutside t) : t.thermal = s.thermal :=
  (congrArg State.thermal h).trans rfl
theorem State.sameOutside.warnSet_eq {s t : State} (h : s.sameOutside t) : t.warnSet = s.warnSet :=
  (congrArg State.warnSet h).trans rfl
theorem State.sameOutside.shutdownSet_eq {s t : State} (h : s.sameOutside t) : t.shutdownSet = s.shutdownSet :=
  (congrArg State.shutdownSet h).trans rfl
theorem State.sameOutside.supply_eq {s t : State} (h : s.sameOutside t) : t.supply = s.supply :=
  (congrArg State.supply h).trans rfl
theorem State.sameOutside.insideOuter_eq {s t : State} (h : s.sameOutside t) : t.insideOuter = s.insideOuter :=
  (congrArg State.insideOuter h).trans rfl
theorem State.sameOutside.armed_eq {s t : State} (h : s.sameOutside t) : t.armed = s.armed :=
  (congrArg State.armed h).trans rfl
theorem State.sameOutside.holdOn_eq {s t : State} (h : s.sameOutside t) : t.holdOn = s.holdOn :=
  (congrArg State.holdOn h).trans rfl
theorem State.sameOutside.mask_eq {s t : State} (h : s.sameOutside t) : t.mask = s.mask :=
  (congrArg State.mask h).trans rfl
theorem State.sameOutside.emptyView_eq {s t : State} (h : s.sameOutside t) : t.emptyView = s.emptyView :=
  (congrArg State.emptyView h).trans rfl
theorem State.sameOutside.port_eq {s t : State} (h : s.sameOutside t) : t.port = s.port :=
  (congrArg State.port h).trans rfl
theorem State.sameOutside.shadowFinal_eq {s t : State} (h : s.sameOutside t) : t.shadowFinal = s.shadowFinal :=
  (congrArg State.shadowFinal h).trans rfl
theorem State.sameOutside.shadowDriven_eq {s t : State} (h : s.sameOutside t) : t.shadowDriven = s.shadowDriven :=
  (congrArg State.shadowDriven h).trans rfl
theorem State.sameOutside.shadowPosition_eq {s t : State} (h : s.sameOutside t) : t.shadowPosition = s.shadowPosition :=
  (congrArg State.shadowPosition h).trans rfl
theorem State.sameOutside.cmdArg_eq {s t : State} (h : s.sameOutside t) : t.cmdArg = s.cmdArg :=
  (congrArg State.cmdArg h).trans rfl
theorem State.sameOutside.cmdValue_eq {s t : State} (h : s.sameOutside t) : t.cmdValue = s.cmdValue :=
  (congrArg State.cmdValue h).trans rfl
theorem State.sameOutside.cmdResult_eq {s t : State} (h : s.sameOutside t) : t.cmdResult = s.cmdResult :=
  (congrArg State.cmdResult h).trans rfl
theorem State.sameOutside.cmdDetail_eq {s t : State} (h : s.sameOutside t) : t.cmdDetail = s.cmdDetail :=
  (congrArg State.cmdDetail h).trans rfl
theorem State.sameOutside.arrivals_eq {s t : State} (h : s.sameOutside t) : t.arrivals = s.arrivals :=
  (congrArg State.arrivals h).trans rfl
theorem State.sameOutside.serial_eq {s t : State} (h : s.sameOutside t) : t.serial = s.serial :=
  (congrArg State.serial h).trans rfl
theorem State.sameOutside.restartRun_eq {s t : State} (h : s.sameOutside t) : t.restartRun = s.restartRun :=
  (congrArg State.restartRun h).trans rfl
theorem State.sameOutside.pending_eq {s t : State} (h : s.sameOutside t) : t.pending = s.pending :=
  (congrArg State.pending h).trans rfl

end Sys2Proof.Machine
end

