-- ==== Sys2Proof/Laws/Walk.lean ====
section
/-! SUPPORT. Everything a dispatch pass can do, said once: a series of passes is a chain of four kinds of step (R71, R72, R75, R79), each taken while no condition of R70 holds. -/

namespace Sys2Proof.Machine

/-- One result of the walk at a QUEUED order: a start-time ending (R75), a start (R79), a fence that ends at once or
starts to wait (R72). -/
inductive WalkStep : State → State → Prop where
  | endsAtStart (s : State) (i : SlotNo) (o : Order) (e : Ending) (hq : s.slot i = .queued o) (hk : o.kind ≠ .fence)
      (hc : s.considered i o = true) (he : s.startEnding o = some e) : WalkStep s (s.endOrder e i)
  | starts (s : State) (i : SlotNo) (o : Order) (hq : s.slot i = .queued o) (hk : o.kind ≠ .fence)
      (hc : s.considered i o = true) (he : s.startEnding o = none) (ht : s.compatible i o = true) :
      WalkStep s (s.startMove i o)
  | fenceEnds (s : State) (i : SlotNo) (o : Order) (hq : s.slot i = .queued o) (hk : o.kind = .fence)
      (hn : ∀ j ∈ s.older i, (s.slot j).isQueued = false ∧ (s.slot j).isActive = false) (ha : o.arg = 0) :
      WalkStep s (s.endOrder .done i)
  | fenceWaits (s : State) (i : SlotNo) (o : Order) (hq : s.slot i = .queued o) (hk : o.kind = .fence)
      (hn : ∀ j ∈ s.older i, (s.slot j).isQueued = false ∧ (s.slot j).isActive = false) (ha : o.arg ≠ 0) :
      WalkStep s (s.setSlot i (.waiting o o.delay))

/-- A walk step taken while no condition of R70 holds. -/
def OpenStep (s t : State) : Prop := s.blocked = false ∧ WalkStep s t

theorem WalkStep.sameOutside {s t : State} (h : WalkStep s t) : s.sameOutside t := by
  cases h with
  | endsAtStart i o e => exact sameOutside_endOrder s e i
  | starts i o => exact sameOutside_startMove s i o
  | fenceEnds i o => exact sameOutside_endOrder s .done i
  | fenceWaits i o => rfl

theorem blocked_of_sameOutside {s t : State} (h : s.sameOutside t) : t.blocked = s.blocked := by
  unfold State.sameOutside at h
  rw [h]
  rfl

theorem walk_cons_step (i : SlotNo) (s : State) :
    s.walk [i] = s ∨ WalkStep s (s.walk [i]) := by
  simp only [State.walk]
  split
  · exact .inl rfl
  · next o hq =>
    split
    · next hk =>
      unfold State.reachFence
      split
      · exact .inl rfl
      · next hn =>
        have hn' : ∀ j ∈ s.older i, (s.slot j).isQueued = false ∧ (s.slot j).isActive = false := by
          simpa using hn
        split
        · next ha => exact .inr (.fenceEnds s i o hq hk hn' ha)
        · next ha => exact .inr (.fenceWaits s i o hq hk hn' ha)
    · next hk =>
      unfold State.reachMove
      split
      · next hc =>
        split
        · next e he => exact .inr (.endsAtStart s i o e hq hk hc he)
        · next he =>
          split
          · next ht => exact .inr (.starts s i o hq hk hc he ht)
          · exact .inl rfl
      · exact .inl rfl
  all_goals exact .inl rfl

/-- A walk made while no condition of R70 holds is a chain of steps. -/
theorem walk_steps (l : List SlotNo) : ∀ s : State, s.blocked = false → Relation.ReflTransGen OpenStep s (s.walk l) := by
  induction l with
  | nil => intro s _; exact .refl
  | cons i rest ih =>
    intro s hb
    have h1 := walk_cons_step i s
    have hstep : Relation.ReflTransGen OpenStep s (s.walk [i]) := by
      rcases h1 with h1 | h1
      · rw [h1]
      · exact .single ⟨hb, h1⟩
    have hb' : (s.walk [i]).blocked = false := by
      rcases h1 with h1 | h1
      · rw [h1]; exact hb
      · rw [blocked_of_sameOutside h1.sameOutside]; exact hb
    have hgo : s.walk (i :: rest) = s.walk [i] ∨ s.walk (i :: rest) = (s.walk [i]).walk rest := by
      simp only [State.walk]
      split
      · exact .inl rfl
      · split
        · exact .inl rfl
        · exact .inr rfl
      all_goals exact .inr rfl
    rcases hgo with hgo | hgo
    · rw [hgo]; exact hstep
    · rw [hgo]; exact hstep.trans (ih _ hb')

theorem sameOutside_of_steps {s t : State} (h : Relation.ReflTransGen OpenStep s t) : s.sameOutside t := by
  induction h with
  | refl => exact sameOutside_refl s
  | tail _ h ih => exact sameOutside_trans ih h.2.sameOutside

theorem pass_steps (s : State) : Relation.ReflTransGen OpenStep s s.pass := by
  unfold State.pass
  split
  · exact .refl
  · next h => exact walk_steps _ s (by simpa using h)

/-- Everything a series of passes can do (R68 to R72). -/
theorem dispatch_steps (s : State) : Relation.ReflTransGen OpenStep s s.dispatch := by
  have h : ∀ n (t : State), Relation.ReflTransGen OpenStep t (t.passes n) := by
    intro n
    induction n with
    | zero => intro t; exact .refl
    | succ n ih =>
      intro t
      unfold State.passes
      split
      · exact (pass_steps t).trans (ih _)
      · exact pass_steps t
  exact h 17 s

/-- What holds before a series of passes and is kept by every step of a walk holds after it. -/
theorem dispatch_induct (P : State → Prop) (s : State) (h : P s)
    (hstep : ∀ t u : State, P t → t.blocked = false → WalkStep t u → P u) : P s.dispatch := by
  have hs := dispatch_steps s
  generalize s.dispatch = u at hs
  induction hs with
  | refl => exact h
  | tail _ hd ih => exact hstep _ _ ih hd.1 hd.2

theorem sameOutside_dispatch (s : State) : s.sameOutside s.dispatch := sameOutside_of_steps (dispatch_steps s)

/-- A series of passes does nothing while a condition of R70 holds. -/
theorem dispatch_blocked (s : State) (h : s.blocked = true) : s.dispatch = s := by
  have hp : s.pass = s := by simp [State.pass, h]
  simp [State.dispatch, State.passes, hp]

theorem dispatchIfEnded_induct (P : State → Prop) (s before : State) (h : P s)
    (hstep : ∀ t u : State, P t → t.blocked = false → WalkStep t u → P u) : P (s.dispatchIfEnded before) := by
  unfold State.dispatchIfEnded
  split
  · exact dispatch_induct P s h hstep
  · exact h

theorem sameOutside_dispatchIfEnded (s before : State) : s.sameOutside (s.dispatchIfEnded before) := by
  unfold State.dispatchIfEnded
  split
  · exact sameOutside_dispatch s
  · exact sameOutside_refl s

end Sys2Proof.Machine
end

