-- ==== Sys2Proof/Laws/Events.lean ====
section
/-! SUPPORT. The frame of every event that is no byte of a transfer: what it changes outside the pool, the legs, the grant, the entries and the flags, and that the port and what the host stored stay. -/

namespace Sys2Proof.Machine

/-- A rule of a sameOutside base: the result differs from `s` outside the pool at most as `u` does. -/
theorem sameOutside_of_eq {s t u : State} (h : u.sameOutside t) (k : s.sameOutside u) : s.sameOutside t :=
  sameOutside_trans k h

theorem frame_ripplePulse (a : ActNo) (s : State) : s.sameOutside (s.ripplePulse a) := by
  unfold State.ripplePulse
  split
  · split
    · exact sameOutside_trans (sameOutside_setAct s _ _) (sameOutside_setFlagIf _ _ _)
    · split
      · unfold State.movePulse
        split
        · exact sameOutside_refl s
        · have h := sameOutside_trans (sameOutside_setAct s a ((s.act a).count ‹Move›.dir))
            (sameOutside_setFlagIf _ (saturates ‹Move›.dir (s.act a).position) .positionLost)
          dsimp only
          split
          · exact sameOutside_trans h (sameOutside_trans (sameOutside_onMove _ _ _) (sameOutside_settle _))
          · exact sameOutside_trans h (sameOutside_onMove _ _ _)
      · exact sameOutside_refl s
  · exact sameOutside_refl s

theorem frame_rampExpiry (i : SlotNo) (s : State) : s.sameOutside (s.rampExpiry i) :=
  sameOutside_trans (sameOutside_onMove s _ _) (sameOutside_settle _)

theorem frame_timeoutExpiry (i : SlotNo) (s : State) : s.sameOutside (s.timeoutExpiry i) :=
  sameOutside_trans (sameOutside_onMove s _ _) (sameOutside_settle _)

theorem frame_windowExpiry (i : SlotNo) (s : State) : s.sameOutside (s.windowExpiry i) := by
  unfold State.windowExpiry
  split
  · split
    · split
      · exact sameOutside_trans (sameOutside_setAct s _ _)
          (sameOutside_trans (sameOutside_setSlot _ _ _) (sameOutside_settle _))
      · exact sameOutside_trans (sameOutside_setSlot s _ _) (sameOutside_settle _)
    · exact sameOutside_refl s
  all_goals exact sameOutside_refl s

theorem frame_brakeTimerExpiry (i : SlotNo) (s : State) : s.sameOutside (s.brakeTimerExpiry i) :=
  sameOutside_trans (sameOutside_endBraked s i)
    (sameOutside_trans (sameOutside_settle _) (sameOutside_dispatchIfEnded _ _))

theorem frame_fenceDelayExpiry (i : SlotNo) (s : State) : s.sameOutside (s.fenceDelayExpiry i) := by
  unfold State.fenceDelayExpiry
  split
  · exact sameOutside_trans (sameOutside_endOrder s .done i)
      (sameOutside_trans (sameOutside_settle _) (sameOutside_dispatch _))
  all_goals exact sameOutside_refl s

theorem frame_suspendLimitExpiry (i : SlotNo) (s : State) : s.sameOutside (s.suspendLimitExpiry i) := by
  unfold State.suspendLimitExpiry
  split
  · split
    · exact sameOutside_trans (sameOutside_endOrder s .supply i)
        (sameOutside_trans (sameOutside_settle _) (sameOutside_dispatch _))
    · exact sameOutside_refl s
  · exact sameOutside_refl s

theorem frame_deadIntervalEnd (k : LegNo) (s : State) : s.sameOutside (s.deadIntervalEnd k) := sameOutside_setLeg s k _

theorem frame_overCurrent (k : LegNo) (s : State) : s.sameOutside (s.overCurrent k) := by
  unfold State.overCurrent
  split
  · exact sameOutside_trans (sameOutside_trans (sameOutside_trans (sameOutside_trans (sameOutside_setLeg s k _)
      (sameOutside_endOrders _ _ _)) (sameOutside_settle _)) (sameOutside_setFlag _ _)) (sameOutside_dispatch _)
  · exact sameOutside_refl s

theorem frame_holdAsserted (s : State) (h : s.holdOn = false) :
    ({ s with holdOn := true } : State).sameOutside s.holdAsserted := by
  rw [State.holdAsserted, h]
  exact sameOutside_trans (sameOutside_trans (sameOutside_setFlag { s with holdOn := true } .holdOn)
    (sameOutside_onMoves _ _)) (sameOutside_settle _)

theorem frame_holdReleased (s : State) (h : s.holdOn = true) :
    ({ s with holdOn := false } : State).sameOutside s.holdReleased := by
  rw [State.holdReleased, h]
  exact sameOutside_trans (sameOutside_trans (sameOutside_trans
    (sameOutside_setFlag { s with holdOn := false } .holdOff) (sameOutside_onMoves _ _))
    (sameOutside_returnToDrive _ _ _)) (sameOutside_dispatch _)

theorem frame_loseSupply (s : State) : ({ s with supply := .out } : State).sameOutside s.loseSupply :=
  sameOutside_trans (sameOutside_trans (sameOutside_trans (sameOutside_onMoves { s with supply := .out } _)
    (sameOutside_foldl _ (fun t i => sameOutside_endBraked t i) _ _)) (sameOutside_settle _))
    (sameOutside_dispatchIfEnded _ _)

theorem frame_supplyOut (s : State) (h : s.insideOuter = true) :
    ({ s with insideOuter := false, armed := true, supply := .out } : State).sameOutside s.supplyOut := by
  unfold State.supplyOut
  rw [if_pos h]
  dsimp only
  split
  · exact sameOutside_trans (sameOutside_setFlag _ .supplyOut)
      (frame_loseSupply (({ s with insideOuter := false, armed := true } : State).setFlag .supplyOut))
  · next hq =>
    rw [State.sameOutside, State.setFlag, hq]
  · rfl

theorem frame_restartDelayExpiry (n : Nat) (s : State) (h : s.supply = .recovering n) :
    ({ s with supply := .inRange } : State).sameOutside s.restartDelayExpiry := by
  rw [State.restartDelayExpiry, h]
  dsimp only
  split
  · exact sameOutside_trans (sameOutside_trans (sameOutside_setFlag { s with supply := .inRange } .supplyIn)
      (sameOutside_returnToDrive _ _ _)) (sameOutside_dispatch _)
  · exact sameOutside_trans (sameOutside_setFlag { s with supply := .inRange } .supplyIn) (sameOutside_dispatch _)

theorem frame_shutdownRise (s : State) (h : s.shutdownSet = false) (ht : s.thermal = .warm ∨ s.thermal = .cooled) :
    ({ s with shutdownSet := true, thermal := .shutdown } : State).sameOutside s.shutdownRise := by
  rw [State.shutdownRise, if_pos ⟨h, ht⟩]
  exact sameOutside_trans (sameOutside_trans (sameOutside_trans
    (sameOutside_setFlag { s with shutdownSet := true, thermal := .shutdown } .thermalShutdown)
    (sameOutside_endOrders _ _ _)) (sameOutside_settle _)) (sameOutside_dispatchIfEnded _ _)

/-- Every event keeps the port. -/
theorem port_ripplePulse (a : ActNo) (s : State) : (s.ripplePulse a).port = s.port :=
  (frame_ripplePulse a s).port_eq
theorem port_rampExpiry (i : SlotNo) (s : State) : (s.rampExpiry i).port = s.port :=
  (frame_rampExpiry i s).port_eq
theorem port_timeoutExpiry (i : SlotNo) (s : State) : (s.timeoutExpiry i).port = s.port :=
  (frame_timeoutExpiry i s).port_eq
theorem port_windowExpiry (i : SlotNo) (s : State) : (s.windowExpiry i).port = s.port :=
  (frame_windowExpiry i s).port_eq
theorem port_brakeTimerExpiry (i : SlotNo) (s : State) : (s.brakeTimerExpiry i).port = s.port :=
  (frame_brakeTimerExpiry i s).port_eq
theorem port_fenceDelayExpiry (i : SlotNo) (s : State) : (s.fenceDelayExpiry i).port = s.port :=
  (frame_fenceDelayExpiry i s).port_eq
theorem port_suspendLimitExpiry (i : SlotNo) (s : State) : (s.suspendLimitExpiry i).port = s.port :=
  (frame_suspendLimitExpiry i s).port_eq
theorem port_deadIntervalEnd (k : LegNo) (s : State) : (s.deadIntervalEnd k).port = s.port := rfl
theorem port_overCurrent (k : LegNo) (s : State) : (s.overCurrent k).port = s.port :=
  (frame_overCurrent k s).port_eq

theorem port_holdAsserted (s : State) : s.holdAsserted.port = s.port := by
  cases h : s.holdOn
  · exact (frame_holdAsserted s h).port_eq
  · unfold State.holdAsserted; rw [if_pos h]

theorem port_holdReleased (s : State) : s.holdReleased.port = s.port := by
  cases h : s.holdOn
  · unfold State.holdReleased; rw [if_neg (by simp [h])]
  · exact (frame_holdReleased s h).port_eq

theorem port_supplyOut (s : State) : s.supplyOut.port = s.port := by
  cases h : s.insideOuter
  · unfold State.supplyOut; rw [if_neg (by simp [h])]
  · exact (frame_supplyOut s h).port_eq

theorem port_recover (s : State) : s.recover.port = s.port := by
  unfold State.recover
  split <;> rfl

theorem port_supplyInRange (s : State) : s.supplyInRange.port = s.port := by
  unfold State.supplyInRange
  split
  · exact port_recover _
  · rfl

theorem port_restartDelayExpiry (s : State) : s.restartDelayExpiry.port = s.port := by
  cases h : s.supply with
  | recovering n => exact (frame_restartDelayExpiry n s h).port_eq
  | inRange => rw [State.restartDelayExpiry, h]
  | out => rw [State.restartDelayExpiry, h]

theorem sameOutside_recapSettle (s : State) : s.sameOutside s.recap.settle :=
  sameOutside_trans (sameOutside_onMoves s _) (sameOutside_settle _)

theorem port_warnRise (s : State) : s.warnRise.port = s.port := by
  unfold State.warnRise
  split
  · rfl
  · dsimp only
    split
    · exact (sameOutside_recapSettle _).port_eq
    · rfl

theorem port_warnFall (s : State) : s.warnFall.port = s.port := by
  unfold State.warnFall
  split
  · dsimp only
    split
    · exact (sameOutside_recapSettle _).port_eq
    · rfl
  · rfl

theorem port_shutdownRise (s : State) : s.shutdownRise.port = s.port := by
  by_cases h : s.shutdownSet = false ∧ (s.thermal = .warm ∨ s.thermal = .cooled)
  · exact (frame_shutdownRise s h.1 h.2).port_eq
  · rw [State.shutdownRise, if_neg h]

theorem port_shutdownFall (s : State) : s.shutdownFall.port = s.port := by
  unfold State.shutdownFall
  split
  · dsimp only; split <;> rfl
  · rfl

end Sys2Proof.Machine
end

