-- ==== Sys2Proof/Laws/Pool.lean ====
section
/-! SUPPORT. The ending of orders, said once: what `endOrder` and a series of endings do to the slots, the two lists, the claims, ACTIVE_SLOT and the grant (R43, R44). -/

namespace Sys2Proof.Machine

/-- The slot holds an order that can end: QUEUED or ACTIVE (R44). -/
def SlotState.holdsOrder (x : SlotState) : Bool := x.isQueued || x.isActive

theorem recordOf_congr (s t : State) (o : Order) (e : Ending)
    (h : ∀ a, (t.act a).position = (s.act a).position) : t.recordOf o e = s.recordOf o e := by
  simp only [State.recordOf, State.finalPosition, h]

theorem recordOfMove_congr (s t : State) (o : Order) (m : Move) (e : Ending)
    (h : ∀ a, (t.act a).position = (s.act a).position) : t.recordOfMove o m e = s.recordOfMove o m e := by
  simp only [State.recordOfMove, recordOf_congr s t o e h]

theorem ended_congr (s t : State) (e : Ending) (x : SlotState)
    (h : ∀ a, (t.act a).position = (s.act a).position) : x.ended t e = x.ended s e := by
  cases x <;> simp only [SlotState.ended, recordOf_congr s t _ e h, recordOfMove_congr s t _ _ e h]

theorem slot_finish (s : State) (i j : SlotNo) (r : Record) :
    (s.finish i r).slot j = if i = j then .done r else s.slot j :=
  slot_setSlot s i j (.done r)

theorem leg_dropClaims (s : State) (i : SlotNo) (k : LegNo) : (s.dropClaims i).leg k = (s.leg k).dropClaim i :=
  leg_mapLegs s (fun _ l => l.dropClaim i) k

/-- The slots after an ending (R44). -/
theorem slot_endOrder (s : State) (e : Ending) (i j : SlotNo) :
    (s.endOrder e i).slot j = if i = j then (s.slot i).ended s e else s.slot j := by
  unfold State.endOrder
  split
  case h_1 o h => rw [slot_finish, h, SlotState.ended]
  case h_2 o n h => rw [slot_finish, h, SlotState.ended]
  case h_3 o m h =>
    show (s.finish i (s.recordOfMove o m e)).slot j = _
    rw [slot_finish, h, SlotState.ended]
  case h_4 h => split <;> simp_all [SlotState.ended]
  case h_5 r h => split <;> simp_all [SlotState.ended]

/-- The acceptance order after an ending (R42). -/
theorem acceptance_endOrder (s : State) (e : Ending) (i : SlotNo) (h : (s.slot i).holdsOrder = true) :
    (s.endOrder e i).acceptance = s.acceptance.filter fun j => j != i := by
  unfold State.endOrder
  split <;> first | rfl | simp_all [SlotState.holdsOrder, SlotState.isQueued, SlotState.isActive]

/-- The completion order after an ending (R43). -/
theorem completion_endOrder (s : State) (e : Ending) (i : SlotNo) (h : (s.slot i).holdsOrder = true) :
    (s.endOrder e i).completion = s.completion ++ [i] := by
  unfold State.endOrder
  split <;> first | rfl | simp_all [SlotState.holdsOrder, SlotState.isQueued, SlotState.isActive]

/-- The claims after an ending (R24): those of an active move are gone. -/
theorem leg_endOrder (s : State) (e : Ending) (i : SlotNo) (k : LegNo) :
    (s.endOrder e i).leg k = if (s.slot i).move.isSome then (s.leg k).dropClaim i else s.leg k := by
  unfold State.endOrder
  split
  case h_3 o m h =>
    rw [h]
    exact leg_dropClaims (s.finish i (s.recordOfMove o m e)) i k
  all_goals simp_all [SlotState.move]
  all_goals rfl

/-- ACTIVE_SLOT after an ending (R4). -/
theorem act_endOrder (s : State) (e : Ending) (i : SlotNo) (a : ActNo) :
    (s.endOrder e i).act a =
      if (s.slot i).runsFor a then { s.act a with activeSlot := none } else s.act a := by
  unfold State.endOrder
  split
  case h_3 o m h =>
    rw [h]
    refine (act_setAct ((s.finish i (s.recordOfMove o m e)).dropClaims i) o.actuator a _).trans ?_
    by_cases hb : o.actuator = a
    · simp only [hb, SlotState.runsFor, beq_self_eq_true, if_true]
      rfl
    · simp only [hb, SlotState.runsFor, if_false, beq_iff_eq]
      rfl
  all_goals simp_all [SlotState.runsFor]
  all_goals rfl

/-- The EXT grant after an ending (R78). -/
theorem grant_endOrder (s : State) (e : Ending) (i : SlotNo) :
    (s.endOrder e i).grant = if (s.slot i).move.isSome ∧ s.grant = some i then none else s.grant := by
  unfold State.endOrder
  split
  case h_3 o m h =>
    rw [h]
    simp only [SlotState.move, Option.isSome_some, true_and]
    rfl
  all_goals simp_all [SlotState.move]
  all_goals rfl

theorem flags_endOrder (s : State) (e : Ending) (i : SlotNo) : (s.endOrder e i).flags = s.flags := by
  unfold State.endOrder
  split <;> rfl

/-- No ending yet. -/
theorem afterEndings_nil (s : State) (e : SlotNo → Ending) : s.afterEndings e [] s := by
  refine ⟨sameOutside_refl s, rfl, ?_, ?_, ?_, ?_, ?_, ?_⟩
  · intro i; simp
  · simp
  · simp
  · intro k; simp
  · intro a; simp
  · cases s.grant <;> simp

/-- One more ending (R43, R44). -/
theorem afterEndings_snoc (s t : State) (e : SlotNo → Ending) (is : List SlotNo) (i : SlotNo)
    (h : s.afterEndings e is t) (hn : i ∉ is) (ho : (s.slot i).holdsOrder = true) :
    s.afterEndings e (is ++ [i]) (t.endOrder (e i) i) := by
  obtain ⟨h1, h2, h3, h4, h5, h6, h7, h8⟩ := h
  have hti : t.slot i = s.slot i := by rw [h3 i, if_neg hn]
  have hpos : ∀ a, (t.act a).position = (s.act a).position := by
    intro a
    by_cases hr : ∃ j ∈ is, (s.slot j).runsFor a = true
    · rw [(h7 a).1 hr]
    · rw [(h7 a).2 (by simpa using hr)]
  refine ⟨sameOutside_trans h1 (sameOutside_endOrder t _ i), ?_, ?_, ?_, ?_, ?_, ?_, ?_⟩
  · rw [flags_endOrder, h2]
  · intro j
    rw [slot_endOrder, hti, ended_congr s t _ _ hpos, h3 j]
    by_cases hij : i = j
    · subst hij; simp
    · have : ¬ j = i := fun h => hij h.symm
      simp [hij, this]
  · rw [acceptance_endOrder t _ i (by rw [hti]; exact ho), h4, List.filter_filter]
    congr 1
    funext j
    by_cases hj : j = i <;> simp [hj]
  · rw [completion_endOrder t _ i (by rw [hti]; exact ho), h5, List.append_assoc]
  · intro k
    rw [leg_endOrder, hti, h6 k]
    cases hm : (s.slot i).move.isSome
    · simp only [Bool.false_eq_true, if_false]
      congr 1
      refine List.filter_congr fun c _ => ?_
      by_cases hc : c.slot = i
      · simp [hc, hm]
      · simp [hc]
    · simp only [if_true, Leg.dropClaim, List.filter_filter]
      congr 1
      refine List.filter_congr fun c _ => ?_
      by_cases hc : c.slot = i
      · simp [hc, hm]
      · simp [hc]
  · intro a
    rw [act_endOrder, hti]
    constructor
    · rintro ⟨j, hj, hr⟩
      by_cases hs : ∃ j ∈ is, (s.slot j).runsFor a = true
      · rw [(h7 a).1 hs]; simp
      · have hs' : ∀ j ∈ is, (s.slot j).runsFor a = false := by simpa using hs
        have hji : j = i := by
          rcases List.mem_append.1 hj with hj | hj
          · exact absurd hr (by simp [hs' j hj])
          · simpa using hj
        rw [← hji, hr, (h7 a).2 hs']
        simp
    · intro hr
      rw [hr i (by simp), (h7 a).2 fun j hj => hr j (by simp [hj])]
      simp
  · rw [grant_endOrder, hti, h8]
    cases s.grant with
    | none => simp
    | some g =>
      by_cases hg : g = i
      · subst hg; simp [hn]
      · cases hm : (s.slot i).move.isSome <;> by_cases hgi : g ∈ is ∧ (s.slot g).move.isSome = true <;>
          simp [hg, hgi]

/-- A series of endings, each slot once and each with its outcome (R43, R44). -/
theorem afterEndings_foldl (e : SlotNo → Ending) (s : State) (is : List SlotNo) (hn : is.Nodup)
    (ho : ∀ i ∈ is, (s.slot i).holdsOrder = true) :
    s.afterEndings e is (is.foldl (fun t i => t.endOrder (e i) i) s) := by
  induction is using List.reverseRecOn with
  | nil => exact afterEndings_nil s e
  | append_singleton is i ih =>
    rw [List.foldl_append]
    have hd := List.nodup_append.1 hn
    exact afterEndings_snoc s _ e is i (ih hd.1 fun j hj => ho j (by simp [hj]))
      (fun hi => hd.2.2 i hi i (by simp) rfl) (ho i (by simp))

/-- The endings of `endOrders` (R43, R44). -/
theorem afterEndings_endOrders (e : Ending) (s : State) (is : List SlotNo) (hn : is.Nodup)
    (ho : ∀ i ∈ is, (s.slot i).holdsOrder = true) :
    s.afterEndings (fun _ => e) is (s.endOrders e is) :=
  afterEndings_foldl (fun _ => e) s is hn ho

/-- One ending. -/
theorem afterEndings_endOrder (e : Ending) (s : State) (i : SlotNo) (ho : (s.slot i).holdsOrder = true) :
    s.afterEndings (fun _ => e) [i] (s.endOrder e i) :=
  afterEndings_endOrders e s [i] (by simp) (by simpa using ho)

end Sys2Proof.Machine
end

