-- ==== Sys2Proof/Laws/Legs.lean ====
section
/-! SUPPORT. The legs' reaction said once (R26 to R30), the demand's dependence on claims and moves alone (R25), and STOP's and the cancels' handling of the selected orders (R127, R130). -/

namespace Sys2Proof.Machine

/-- A leg after it has entered a state. -/
@[simp] theorem enter_state (l : Leg) (x : LegState) : (l.enter x).state = x := rfl
@[simp] theorem enter_claims (l : Leg) (x : LegState) : (l.enter x).claims = l.claims := rfl

/-- A leg that stays in its state goes on with its run. -/
theorem enter_self (l : Leg) : l.enter l.state = l := by
  cases h : l.state.conducting <;> simp [Leg.enter, h]

/-- The number of a leg's run never falls. -/
theorem run_le_enter (l : Leg) (x : LegState) : l.run ≤ (l.enter x).run := by
  unfold Leg.enter
  dsimp only
  split
  · exact Nat.le_succ _
  · exact Nat.le_refl _

/-- A leg that stops conducting ends its run (R32, R149). -/
theorem run_lt_enter (l : Leg) (x : LegState) (h : l.state.conducting = true) (hx : x.conducting = false) :
    l.run < (l.enter x).run := by
  simp [Leg.enter, h, hx]

/-- A leg after the legs have reacted (R26). -/
theorem leg_settle (s : State) (k : LegNo) :
    s.settle.leg k = (s.leg k).enter ((s.leg k).state.react s.deadTicks (s.demand k)) :=
  leg_mapLegs s (fun k l => l.enter (l.state.react s.deadTicks (s.demand k))) k

theorem slot_settle (s : State) (i : SlotNo) : s.settle.slot i = s.slot i := rfl

/-- The demand rests on the leg's claims and the slots alone (R25). -/
theorem demand_congr (s t : State) (k : LegNo) (hc : (t.leg k).claims = (s.leg k).claims)
    (hs : ∀ i, (t.slot i).move = (s.slot i).move) : t.demand k = s.demand k := by
  have hk : t.keepsLow = s.keepsLow := by
    funext c
    simp only [State.keepsLow, SlotState.inPhase, hs]
  simp only [State.demand, hc, hs, hk]

theorem demand_settle (s : State) (k : LegNo) : s.settle.demand k = s.demand k :=
  demand_congr s s.settle k (by rw [leg_settle, enter_claims]) fun _ => rfl

/-- A reaction ends at the demand, or in a BREAK on the way to it (R26, R29), but for OFF. -/
theorem react_shows (dead : Ticks) (d : Demand) (x : LegState) (h : x ≠ .off) :
    (x.react dead d).shows d = true := by
  cases x <;> cases d <;> first | exact absurd rfl h | rfl

/-- A leg that stands at its demand stays as it is when its demand is taken again (R26). -/
theorem react_of_shows (dead : Ticks) (d : Demand) (x : LegState) (h : x.shows d = true) : x.react dead d = x := by
  cases x with
  | brk e n => cases d <;> cases e <;> first | rfl | cases h
  | off => rfl
  | float => cases d <;> first | rfl | cases h
  | low => cases d <;> first | rfl | cases h
  | high => cases d <;> first | rfl | cases h
  | mod => cases d <;> first | rfl | cases h
  | ext => cases d <;> first | rfl | cases h

/-- The legs' reaction brings every leg to its demand (R26). -/
theorem settle_demandLaw (s : State) : s.settle.DemandLaw := by
  intro k
  rw [demand_settle, leg_settle]
  by_cases h : (s.leg k).state = .off
  · left
    simp only [h, LegState.react, enter_state]
  · right
    exact react_shows _ _ _ h

/-- Where every leg stands at its demand, the legs' reaction changes nothing. -/
theorem settle_eq_self (s : State) (h : s.DemandLaw) : s.settle = s := by
  have hl : s.settle.legs = s.legs := by
    apply Vector.ext
    intro j hj
    have hk := leg_settle s ⟨j, hj⟩
    have hr : (s.leg ⟨j, hj⟩).state.react s.deadTicks (s.demand ⟨j, hj⟩) = (s.leg ⟨j, hj⟩).state := by
      rcases h ⟨j, hj⟩ with hoff | hsh
      · rw [hoff]; rfl
      · exact react_of_shows _ _ _ hsh
    rw [hr, enter_self] at hk
    exact hk
  have hs : s.settle = { s with legs := s.settle.legs } := by simp only [State.settle, State.mapLegs]
  rw [hs, hl]

theorem brake_driving (s : State) (e : Ending) (m : Move) : (s.brake e m).phase.driving = false := rfl

/-- A slot after the driving moves of a list have been braked (R127, R130). -/
theorem slot_brakeMoves (s : State) (e : Ending) (is : List SlotNo) (i : SlotNo) :
    (s.brakeMoves e is).slot i =
      if i ∈ is then (s.slot i).mapMove fun _ m => if m.phase.driving then s.brake e m else m else s.slot i := by
  have hb : ∀ (l : List SlotNo) (t : State), (∀ m, t.brake e m = s.brake e m) →
      (l.foldl (fun t i => t.onMove i fun _ m => if m.phase.driving then t.brake e m else m) t).slot i =
        if i ∈ l then (t.slot i).mapMove fun _ m => if m.phase.driving then s.brake e m else m else t.slot i := by
    intro l
    induction l with
    | nil => intro t _; simp
    | cons j l ih =>
      intro t ht
      rw [List.foldl_cons, ih (t.onMove j fun _ m => if m.phase.driving then t.brake e m else m) fun m => ht m]
      rw [slot_onMove]
      simp only [ht]
      by_cases hj : j = i
      · subst hj
        by_cases hl : j ∈ l
        · simp only [hl, if_true, List.mem_cons, true_or]
          cases t.slot j with
          | active o m =>
            simp only [SlotState.mapMove]
            by_cases h : m.phase.driving = true
            · simp only [h, if_true, brake_driving, Bool.false_eq_true, if_false]
            · simp only [h, Bool.false_eq_true, if_false]
          | free => rfl
          | queued o => rfl
          | waiting o n => rfl
          | done r => rfl
        · simp [hl]
      · have hij : ¬ i = j := fun h => hj h.symm
        simp [hj, hij]
  exact hb is s fun _ => rfl

theorem brakeMoves_eq (s : State) (e : Ending) (is : List SlotNo) :
    s.brakeMoves e is = { s with slots := (s.brakeMoves e is).slots } := by
  have hb : ∀ (l : List SlotNo) (t : State),
      l.foldl (fun t i => t.onMove i fun _ m => if m.phase.driving then t.brake e m else m) t =
        { t with slots := (l.foldl (fun t i => t.onMove i fun _ m =>
          if m.phase.driving then t.brake e m else m) t).slots } := by
    intro l
    induction l with
    | nil => intro t; rfl
    | cons j l ih =>
      intro t
      rw [List.foldl_cons]
      exact (ih (t.onMove j fun _ m => if m.phase.driving then t.brake e m else m)).trans rfl
  exact hb is s

/-- STOP's and the cancels' handling of the selected orders of the acceptance order (R127, R130). -/
theorem afterWithdrawal_withdraw (s : State) (e : Ending) (p : SlotNo → Bool) (hp : s.PoolLaw) :
    s.afterWithdrawal e p (s.withdraw e (s.acceptance.filter p)) := by
  obtain ⟨hn, _, ha, _⟩ := hp
  refine ⟨s.brakeMoves e ((s.acceptance.filter p).filter fun i => (s.slot i).drives), _, brakeMoves_eq _ _ _, ?_,
    ?_, rfl⟩
  · intro i
    rw [slot_brakeMoves]
    by_cases hpi : p i = true
    · by_cases hd : (s.slot i).drives = true
      · have hi : i ∈ s.acceptance := by
          rw [ha i]
          revert hd
          cases s.slot i <;> simp [SlotState.drives, SlotState.inPhase, SlotState.move, SlotState.isActive]
        simp [hpi, hd, hi]
      · have hm : (s.slot i).mapMove (fun _ m => if m.phase.driving then s.brake e m else m) = s.slot i := by
          revert hd
          cases s.slot i <;> simp_all [SlotState.drives, SlotState.inPhase, SlotState.move, SlotState.mapMove]
        simp [hpi, hd, hm]
    · simp [hpi]
  · have he : ((s.acceptance.filter p).filter fun i => (s.slot i).endsAtOnce) =
        s.acceptance.filter fun i => p i && (s.slot i).endsAtOnce := by
      rw [List.filter_filter]
      exact List.filter_congr fun i _ => Bool.and_comm _ _
    rw [he]
    refine afterEndings_endOrders e _ _ (hn.filter _) fun i hi => ?_
    have hi := (List.mem_filter.1 hi).2
    rw [slot_brakeMoves]
    split <;> revert hi <;> cases s.slot i <;>
      simp [SlotState.endsAtOnce, SlotState.holdsOrder, SlotState.isQueued, SlotState.isActive, SlotState.mapMove]

end Sys2Proof.Machine
end

