-- ==== Sys2Proof/Laws/Port.lean ====
section
/-! SUPPORT. The rows of a data byte, said once: what a write row, a read row and a plain data byte answer by where the port stands. -/

namespace Sys2Proof.Machine

theorem writesAt_iff (s : State) (a : Addr) : s.writesAt a = true ↔ s.Writing a := by
  obtain ⟨r, hr⟩ : ∃ r, r = s.inReset := ⟨_, rfl⟩
  obtain ⟨p, hp⟩ : ∃ p, p = s.port := ⟨_, rfl⟩
  unfold State.writesAt State.Writing
  rw [← hr, ← hp]
  rcases p with _ | _ | ⟨w, q, c⟩ | _
  case data =>
    cases w <;> cases r <;> simp
  all_goals simp

theorem readsAt_iff (s : State) (p : Nat → Bool) (a : Addr) (c : Captured) :
    s.readsAt p = some (a, c) ↔ s.Reading a c ∧ p a.toNat = true := by
  obtain ⟨r, hr⟩ : ∃ r, r = s.inReset := ⟨_, rfl⟩
  obtain ⟨q, hq⟩ : ∃ q, q = s.port := ⟨_, rfl⟩
  unfold State.readsAt State.Reading
  rw [← hr, ← hq]
  rcases q with _ | _ | ⟨w, b, d⟩ | _
  case data =>
    cases w <;> cases r <;> simp
    constructor
    · rintro ⟨h, rfl, rfl⟩; exact ⟨⟨rfl, rfl⟩, h⟩
    · rintro ⟨⟨rfl, rfl⟩, h⟩; exact ⟨h, rfl, rfl⟩
  all_goals simp

theorem writeRow_at (a : Addr) (f : State → State) (s : State) (h : s.Writing a) :
    writeRow a f s = .next (f s).advance := by
  rw [writeRow, (writesAt_iff s a).2 h]
  rfl

theorem writeRow_none (a : Addr) (f : State → State) (s : State) (h : ¬ s.Writing a) : writeRow a f s = .next s := by
  have hw : s.writesAt a = false := by
    rw [← writesAt_iff] at h
    simpa using h
  rw [writeRow, hw]
  rfl

theorem readRow_at (p : Nat → Bool) (a : Addr) (c : Captured) (s : State) (h : s.Reading a c)
    (hp : p a.toNat = true) : readRow p s = .next (s.readEffect a c).advance := by
  rw [readRow, (readsAt_iff s p a c).2 ⟨h, hp⟩]

theorem readRow_none (p : Nat → Bool) (s : State) (h : ∀ a c, s.Reading a c → p a.toNat = false) :
    readRow p s = .next s := by
  unfold readRow
  split
  · next a c he =>
    have hr := (readsAt_iff s p a c).1 he
    simp [h a c hr.1] at hr
  · rfl

theorem State.Writing.live {s : State} {a : Addr} (h : s.Writing a) : s.inReset = false := h.1

/-- The advance after a written byte whose work left the port where it stood (R168). -/
theorem advance_write (s t : State) (a : Addr) (h : s.Writing a) (hp : t.port = s.port) : t.advance = t.written a := by
  obtain ⟨_, out, ho⟩ := h
  unfold State.advance
  rw [hp, ho]
  rfl

/-! ### The capture of a byte (R169, R152) -/

/-- Away from 34h and 36h a capture changes the port alone. -/
theorem beginRead_plain (s : State) (a : Addr) (h : a ≠ 0x34) (k : a ≠ 0x36) :
    s.beginRead a = { s with port := .data false a (s.capture a) } := by
  rw [State.beginRead, if_neg fun e => h e.2, if_neg fun e => k e.2]

/-- Without the empty view a capture changes the port alone. -/
theorem beginRead_view (s : State) (a : Addr) (h : s.emptyView = false) :
    s.beginRead a = { s with port := .data false a (s.capture a) } := by
  have hn : ∀ p : Prop, ¬ (s.emptyView = true ∧ p) := fun p e => by rw [h] at e; cases e.1
  rw [State.beginRead, if_neg (hn _), if_neg (hn _)]

/-- The advance after a read byte whose effect left the port where it stood (R169). -/
theorem advance_read (s t : State) (a : Addr) (c : Captured) (h : s.Reading a c) (hp : t.port = s.port) :
    t.advance = t.beginRead (a + 1) := by
  unfold State.advance
  rw [hp, h.2]

theorem dataByte_write (v : Byte) (s : State) (a : Addr) (h : s.Writing a) :
    execRegisterWrite v s = .next (s.takeWrite a v).advance := by
  obtain ⟨hl, out, ho⟩ := h
  simp only [execRegisterWrite, whenLive, hl, State.dataByte, ho]
  rfl

theorem dataByte_read (v : Byte) (s : State) (a : Addr) (c : Captured) (h : s.Reading a c) :
    execRegisterWrite v s = .next (s.readEffect a c).advance := by
  simp only [execRegisterWrite, whenLive, h.1, State.dataByte, h.2]
  rfl

/-! ### Events addressed to an order (R44) -/

theorem forOrder_own (s : State) (r : OrderRef) (f : SlotNo → State → State)
    (h : (s.slot r.slot).number = some r.serial) : s.forOrder r f = f r.slot s := by
  rw [State.forOrder, if_pos h]

theorem forOrder_other (s : State) (r : OrderRef) (f : SlotNo → State → State)
    (h : (s.slot r.slot).number ≠ some r.serial) : s.forOrder r f = s := by
  rw [State.forOrder, if_neg h]

/-- An expiry of a run of a timer is taken while that run of that order's timer is the present one (R87, R44). -/
theorem forTimer_own (s : State) (count : Move → Nat) (r : TimerRef) (f : SlotNo → State → State)
    (hr : (s.slot r.order.slot).move.map count = some r.run)
    (h : (s.slot r.order.slot).number = some r.order.serial) : s.forTimer count r f = f r.order.slot s := by
  rw [State.forTimer, if_pos hr, forOrder_own s r.order f h]

/-- An expiry of another run of the timer is dropped (R87, R102). -/
theorem forTimer_otherRun (s : State) (count : Move → Nat) (r : TimerRef) (f : SlotNo → State → State)
    (hr : (s.slot r.order.slot).move.map count ≠ some r.run) : s.forTimer count r f = s := by
  rw [State.forTimer, if_neg hr]

/-- An expiry addressed to another order is dropped (R44). -/
theorem forTimer_other (s : State) (count : Move → Nat) (r : TimerRef) (f : SlotNo → State → State)
    (h : (s.slot r.order.slot).number ≠ some r.order.serial) : s.forTimer count r f = s := by
  rw [State.forTimer, forOrder_other s r.order f h, ite_self]

/-- An event of the leg's present run is taken (R29, R32). -/
theorem forLeg_own (s : State) (r : LegRef) (f : LegNo → State → State) (h : (s.leg r.leg).run = r.run) :
    s.forLeg r f = f r.leg s := by
  rw [State.forLeg, if_pos h]

/-- An event of another run of the leg is dropped (R29, R149). -/
theorem forLeg_other (s : State) (r : LegRef) (f : LegNo → State → State) (h : (s.leg r.leg).run ≠ r.run) :
    s.forLeg r f = s := by
  rw [State.forLeg, if_neg h]

/-- An event of the restart delay that runs is taken (R120). -/
theorem forRestart_own (s : State) (n : Nat) (f : State → State) (h : s.restartRun = n) : s.forRestart n f = f s := by
  rw [State.forRestart, if_pos h]

/-- An event of another restart delay is dropped (R118, R120). -/
theorem forRestart_other (s : State) (n : Nat) (f : State → State) (h : s.restartRun ≠ n) : s.forRestart n f = s := by
  rw [State.forRestart, if_neg h]

theorem number_active (o : Order) (m : Move) : (SlotState.active o m).number = some o.serial := rfl
theorem number_waiting (o : Order) (n : Ticks) : (SlotState.waiting o n).number = some o.serial := rfl

/-- A live step of a command that is no byte of a transfer. -/
theorem whenLive_live (f : State → State) (s : State) (h : s.inReset = false) : whenLive f s = .next (f s) := by
  rw [whenLive, h]
  rfl

theorem whenLive_reset (f : State → State) (s : State) (h : s.inReset = true) : whenLive f s = .next s := by
  rw [whenLive, h]
  rfl

theorem not_writing_of_reset (s : State) (h : s.inReset = true) (a : Addr) : ¬ s.Writing a := by
  rintro ⟨hl, _⟩
  rw [h] at hl
  cases hl

theorem not_reading_of_reset (s : State) (h : s.inReset = true) (a : Addr) (c : Captured) : ¬ s.Reading a c := by
  rintro ⟨hl, _⟩
  rw [h] at hl
  cases hl

/-- A port writes at one address only. -/
theorem writing_unique {s : State} {a b : Addr} (h : s.Writing a) (k : s.Writing b) : a = b := by
  obtain ⟨_, _, h⟩ := h
  obtain ⟨_, _, k⟩ := k
  rw [h] at k
  injection k

end Sys2Proof.Machine
end

