-- ==== Sys2Proof/Laws/Time.lean ====
section
/-! SUPPORT. What a step does while no command waits: which expiries are due, that one of them is taken, and what a unit of time changes, slot by slot and leg by leg. -/

namespace Sys2Proof.Machine

theorem clocks_eq (s : State) :
    s.clocks =
      { s with
        slots := (s.mapSlots fun _ x => x.tick).slots
        legs := (s.mapLegs fun _ l => { l with state := l.state.tick }).legs, supply := s.supply.tick } := by
  simp only [State.clocks, State.mapLegs, State.mapSlots, State.leg]

theorem slot_clocks (s : State) (i : SlotNo) : s.clocks.slot i = (s.slot i).tick := by
  rw [← slot_mapSlots s (fun _ x => x.tick) i, clocks_eq]
  rfl

theorem leg_clocks (s : State) (k : LegNo) : s.clocks.leg k = { s.leg k with state := (s.leg k).state.tick } := by
  rw [← leg_mapLegs s (fun _ l => { l with state := l.state.tick }) k, clocks_eq]
  rfl

theorem mem_only (b : Bool) (c d : Instr) : d ∈ only b c ↔ b = true ∧ d = c := by
  cases b <;> simp [only]

/-- The expiries due at a slot, each in the phase in which its timer runs (R87). -/
theorem mem_slotDues (i : SlotNo) (x : SlotState) (c : Instr) :
    c ∈ x.dues i ↔
      (∃ o m, c = .rampExpiry ⟨⟨i, o.serial⟩, m.rampRun⟩ ∧ x = .active o m ∧ m.phase = .starting ∧ m.extHeld = false ∧
        m.rampTimer = some 0) ∨
      (∃ o m, c = .windowExpiry ⟨⟨i, o.serial⟩, m.windowRun⟩ ∧ x = .active o m ∧ m.phase.driving = true ∧ m.window = some 0) ∨
      (∃ o m, c = .timeoutExpiry ⟨i, o.serial⟩ ∧ x = .active o m ∧ m.phase.driving = true ∧ m.timeoutLeft = some 0) ∨
      (∃ o m, c = .brakeTimerExpiry ⟨i, o.serial⟩ ∧ x = .active o m ∧ m.phase = .braking ∧ m.brakeTimer = some 0) ∨
      (∃ o m, c = .suspendLimitExpiry ⟨⟨i, o.serial⟩, m.suspendRun⟩ ∧ x = .active o m ∧ m.phase = .suspended ∧
        m.suspendTimer = some 0) ∨
      (∃ o, c = .fenceDelayExpiry ⟨i, o.serial⟩ ∧ x = .waiting o 0) := by
  cases x with
  | active o m => cases h : m.phase <;> simp [SlotState.dues, h, mem_only, isDue, Phase.driving] <;> tauto
  | waiting o n => simp [SlotState.dues, mem_only]; tauto
  | free => simp [SlotState.dues]
  | queued o => simp [SlotState.dues]
  | done r => simp [SlotState.dues]

theorem mem_legDues (k : LegNo) (l : Leg) (c : Instr) :
    c ∈ l.dues k ↔ c = .deadIntervalEnd ⟨k, l.run⟩ ∧ ∃ d, l.state = .brk d 0 := by
  cases h : l.state <;> simp [Leg.dues, h, mem_only]
  tauto

theorem mem_supplyDues (n : Nat) (x : Supply) (c : Instr) :
    c ∈ x.dues n ↔ c = .restartDelayExpiry n ∧ x = .recovering 0 := by
  cases x <;> simp [Supply.dues, mem_only]
  tauto

/-- An order that a reference names, at its slot. -/
theorem eq_orderRef (r : OrderRef) (i : SlotNo) (n : Nat) : r = ⟨i, n⟩ ↔ i = r.slot ∧ n = r.serial := by
  cases r
  simp only [OrderRef.mk.injEq, eq_comm]

/-- A run of a timer that a reference names. -/
theorem eq_timerRef (r : TimerRef) (i : SlotNo) (n k : Nat) :
    r = ⟨⟨i, n⟩, k⟩ ↔ i = r.order.slot ∧ n = r.order.serial ∧ k = r.run := by
  obtain ⟨⟨j, m⟩, l⟩ := r
  simp only [TimerRef.mk.injEq, OrderRef.mk.injEq, eq_comm, and_assoc]

/-- A run of a leg that a reference names. -/
theorem eq_legRef (r : LegRef) (k : LegNo) (n : Nat) : r = ⟨k, n⟩ ↔ k = r.leg ∧ n = r.run := by
  cases r
  simp only [LegRef.mk.injEq, eq_comm]

/-- The list of the due expiries holds exactly those that are due. -/
theorem mem_dues (s : State) (c : Instr) : c ∈ s.dues ↔ s.expiryDue c := by
  simp only [State.dues, List.mem_append, List.mem_flatMap, List.mem_finRange, true_and, mem_slotDues, mem_legDues,
    mem_supplyDues]
  cases c <;> simp [State.expiryDue, eq_orderRef, eq_timerRef, eq_legRef]
  all_goals grind

/-- The expiry taken is one that is due. -/
theorem nextDue_mem (s : State) (c : Instr) (h : s.nextDue = some c) : c ∈ s.dues := by
  unfold State.nextDue at h
  split at h
  · cases h
  · next d hd => rw [hd]; cases h; simp
  · next d e cs hd => rw [hd]; exact List.mem_of_getElem? h

/-- With an expiry due, one is taken. -/
theorem nextDue_isSome (s : State) (h : s.dues ≠ []) : ∃ c, s.nextDue = some c := by
  unfold State.nextDue
  split
  · next hd => exact absurd hd h
  · next d hd => exact ⟨d, rfl⟩
  · next d e cs hd =>
    have hlt : Config.firstDue s.arrivals (cs.length + 2) % (cs.length + 2) < (d :: e :: cs).length := by
      simp only [List.length_cons]
      exact Nat.mod_lt _ (by omega)
    exact ⟨_, List.getElem?_eq_getElem hlt⟩

theorem nextDue_eq_none (s : State) (h : s.dues = []) : s.nextDue = none := by
  unfold State.nextDue
  rw [h]

end Sys2Proof.Machine
end

