-- ==== Sys2Proof/Tests/Slice0.lean ====
section
/-! SUPPORT. Tests: the smoke test of WellFormed, one step of a command on a small state with the value the manual gives, and for every statement a state that meets its hypotheses. -/

/- One theorem at a time: each kernel evaluation that waits for another holds a thread of its own. -/
set_option Elab.async false

open Sys2Proof Sys2Proof.Machine

namespace Sys2Proof.Tests

/-! ### Small states -/

/-- RUN, no monitor condition, the port IDLE, an empty pool. -/
def live : State := { State.reset with inReset := false, supply := .inRange, armed := false, running := true }

/-- A write transfer stands at the address. -/
def wr (s : State) (a : Addr) : State := { s with port := .data true a noByte }

/-- A read transfer has captured the byte at the address. -/
def rd (s : State) (a : Addr) : State := { s with port := .data false a (s.capture a) }

theorem writing_wr (s : State) (a : Addr) (h : s.inReset = false) : (wr s a).Writing a := ⟨h, _, rfl⟩

theorem reading_rd (s : State) (a : Addr) (h : s.inReset = false) : (rd s a).Reading a (s.capture a) := ⟨h, rfl⟩

/-- A0 between L1 and L2. -/
def wiring : ActConfig := { ActConfig.reset with posLeg := 1, negLeg := 2, enable := 1 }

/-- A0 enabled and VALID at 0. -/
def homed : State := live.setAct 0 { Actuator.reset with config := wiring, valid := true }

/-- MOVE_TO 100 for A0 at SC1, tag 7, with NOTIFY. -/
def order0 : Order where
  kind := .moveTo
  actuator := 0
  arg := 100
  speed := 1
  timeout := 0
  ext := false
  notify := true
  tag := 7
  pass := 0
  serial := 0

/-- The staging bytes of `order0`. -/
def stage0 : Staging where
  kind := 1
  act := 0
  arg := 100
  speed := 1
  timeout := 0
  flags := 2
  tag := 7

/-- A FENCE with the delay. -/
def fence (n : Half) : Order := { order0 with kind := .fence, arg := n }

/-- A move of `order0` in RUNNING. -/
def move0 : Move where
  dir := .opening
  target := some 100
  snapshot := { start := 16, run := 48, step := 4, approach := 20 }
  phase := .running
  rampLevel := 48
  duty := 48
  outcome := none
  driven := 0
  coast := 0
  driveTicks := 0
  firstSeen := true
  timeoutLeft := none
  extHeld := false
  holdPending := false
  rampTimer := none
  window := some 200000
  brakeTimer := none
  suspendTimer := none
  rampRun := 0
  windowRun := 0
  suspendRun := 0

/-- A leg in its first run. -/
def newLeg (x : LegState) (cs : List Claim) : Leg := { state := x, claims := cs, run := 0 }

/-- `move0` in STARTING. -/
def ramping : Move := { move0 with phase := .starting, rampLevel := 16, duty := 16, rampTimer := some 40000 }

/-- `move0` in BRAKING with an outcome. -/
def braking (e : Ending) : Move :=
  { move0 with phase := .braking, outcome := some e, window := none, brakeTimer := some 200000 }

/-- `move0` in HELD. -/
def held : Move := { move0 with phase := .held, window := none }

/-- `move0` in SUSPENDED. -/
def suspended : Move := { move0 with phase := .suspended, window := none, suspendTimer := some 200000 }

/-- S0 holds the active move of the order for A0, with its claims on L1 and L2. -/
def withMove (s : State) (o : Order) (m : Move) : State :=
  ((((({ s with acceptance := [0] } : State).setSlot 0 (.active o m)).setAct 0
    { s.act 0 with activeSlot := some 0 }).setLeg 0 (newLeg .float [⟨0, .drive⟩])).setLeg 1 (newLeg .float [⟨0, .ret⟩])).settle

/-- A0 runs. -/
def moving : State := withMove homed order0 move0

/-- S0 holds a QUEUED order. -/
def queued (o : Order) : State := ({ homed with acceptance := [0] } : State).setSlot 0 (.queued o)

/-- S0 holds a waiting fence. -/
def waiting : State := ({ homed with acceptance := [0] } : State).setSlot 0 (.waiting (fence 1) 20000)

/-- S0 holds a completion record at the head. -/
def finished : State := ({ homed with completion := [0] } : State).setSlot 0 (.done (homed.recordOf order0 .done))

/-- The state after a command. -/
def did (c : Instr) (s : State) : State :=
  match exec c s with
  | .next t => t
  | .fault _ => s
  | .refused _ => s

/-! ### Well-formedness: the one check -/

theorem test_unknown_command_with_a_known_code_is_ill_formed :
    Instr.wellFormed (.unknownCommand 0x01) = false ∧ Instr.wellFormed (.unknownCommand 0x3F) = false := by decide

theorem test_unknown_command_with_an_unknown_code_is_well_formed :
    Instr.wellFormed (.unknownCommand 0x00) = true ∧ Instr.wellFormed (.unknownCommand 0xFF) = true := by decide

/-- The table gives no row any bits. -/
theorem test_no_word_spells_a_command : decodeTableWord 8 0 = none ∧ decodeTableWord 16 0x8055 = none := by decide

/-! ### One step each, with the values of the manual -/

/-- R167 after R181: status bits 3 and nothing else right after a reset with VBR outside. -/
theorem test_status_byte_after_reset :
    (did .selnFalling (did (.resetEnd .cool .outside false false) State.reset)).sdo = some 0x08 := by decide +kernel

/-- R177: PART reads C6h. -/
theorem test_header_byte_reads_part : (did (.headerByte 0x00) { live with port := .header 0 }).sdo = some 0xC6 := by
  decide +kernel

/-- R158: a partial byte sets FRAME_ERR. -/
theorem test_transfer_end_partial : (did (.transferEnd 3) (wr live 0x20)).flags = 0x0400 := by decide +kernel

/-- R168: a byte written to staging is stored, and the pointer advances. -/
theorem test_register_write_staging :
    (did (.registerWrite 3) (wr live 0x20)).staging.kind = 3 ∧
      (did (.registerWrite 3) (wr live 0x7F)).port = .data true 0x00 noByte := by decide +kernel

/-- R54: KIND 0 is refused with BAD_KIND. -/
theorem test_submit_bad_kind : (did (.submit 0) (wr live 0x28)).submitResult = .badKind := by decide +kernel

/-- R57, R79: a MOVE_TO for an idle homed actuator starts in the pass that follows its acceptance. -/
theorem test_submit_starts :
    ((did (.submit 0) (wr { homed with staging := stage0 } 0x28)).slot 0).stateByte = 0x21 := by decide +kernel

/-- R9: a page with START_WIN 0 is refused with BAD_ARG. -/
theorem test_apply_bad_arg :
    (did (.apply 0) (wr { live with page := { wiring with startWin := 0 } } 0x4F)).applyResult = .badArg := by
  decide +kernel

/-- R12: enabling an entry makes it UNKNOWN. -/
theorem test_apply_enables :
    ((did (.apply 0) (wr { live with page := wiring } 0x4F)).act 0).config = wiring := by decide +kernel

/-- R81: a pass limit above 15 is stored as 15. -/
theorem test_pass_limit_clamped : (did (.passlimWrite 200) (wr live 0x1D)).settings.passLimit = 15 := by decide +kernel

/-- R94: the WARM cap caps a running move. -/
theorem test_warm_cap_caps :
    ((did .warnRise moving).slot 0).dutyByte = 40 ∧ ((did .warnRise moving).leg 0).state = .mod := by decide +kernel

/-- R152: a window byte captured while the completion order is empty sets the empty view. -/
theorem test_window_read_of_nothing : (did .completionWindowRead (rd live 0x30)).emptyView = true := by decide +kernel

/-- R153: the read of 39h frees the slot of the head. -/
theorem test_pop_frees_head : (did .completionPop (rd finished 0x39)).slot 0 = .free := by decide +kernel

/-- R172: the high byte after the low byte is the shadow. -/
theorem test_position_read_fills_shadow :
    (did .positionRead (rd (live.setAct 0 { Actuator.reset with position := 0x1234 }) 0x50)).sdo = some 0x12 := by
  decide +kernel

/-- R97: the pulse that reaches the target decides DONE. -/
theorem test_pulse_reaches_target :
    ((did (.ripplePulse 0) (withMove homed order0 { move0 with target := some 1 })).slot 0).stateByte = 0x24 := by
  decide +kernel

/-- R91: a ramp expiry adds the ramp step. -/
theorem test_ramp_expiry_steps : ((did (.rampExpiry ⟨⟨0, 0⟩, 0⟩) (withMove homed order0 ramping)).slot 0).dutyByte = 20 := by
  decide +kernel

/-- R100: an expired window of a MOVE_TO is STALLED. -/
theorem test_window_expiry_stalls :
    ((did (.windowExpiry ⟨⟨0, 0⟩, 0⟩) moving).slot 0).move.bind Move.outcome = some .stalled := by decide +kernel

/-- R105: the end of braking makes the slot DONE and frees the legs. -/
theorem test_brake_timer_ends_move :
    (did (.brakeTimerExpiry ⟨0, 0⟩) (withMove homed order0 (braking .done))).completion = [0] ∧
      ((did (.brakeTimerExpiry ⟨0, 0⟩) (withMove homed order0 (braking .done))).leg 0) =
        { newLeg .float [] with run := 1 } := by
  decide +kernel

/-- R28: a running move braked goes LOW through BREAK of 2 us. -/
theorem test_hold_breaks_the_drive_leg : ((did .holdAsserted moving).leg 0).state = .brk .low 4 := by decide +kernel

/-- R33: an over-current latches the leg and ends the move. -/
theorem test_over_current_latches :
    ((did (.overCurrent ⟨0, 0⟩) moving).leg 0).state = .off ∧ (did (.overCurrent ⟨0, 0⟩) moving).flags = 0x0002 := by
  decide +kernel

/-- R117: a supply out suspends a running move and floats its legs. -/
theorem test_supply_out_floats :
    ((did .supplyOut moving).slot 0).stateByte = 0x26 ∧ ((did .supplyOut moving).leg 1).state = .float := by
  decide +kernel

/-- R133: motion reset discards the move and marks its actuator UNKNOWN. -/
theorem test_motion_reset_loses_position :
    (did .motionReset (wr moving 0x07)).flags = 0x0200 ∧ ((did .motionReset (wr moving 0x07)).act 0).valid = false := by
  decide +kernel

/-- R127: STOP brakes a running move. -/
theorem test_stop_brakes : ((did .stop (wr moving 0x07)).slot 0).stateByte = 0x24 := by decide +kernel

/-- R91, R87: a ramp timer in its last 0.5 us comes due in the next unit of time, and the step after takes it. -/
theorem test_ramp_expiry_comes_due :
    (withMove homed order0 { ramping with rampTimer := some 1 }).clocks.nextDue = some (.rampExpiry ⟨⟨0, 0⟩, 0⟩) := by
  decide +kernel

/-- R44: an expiry addressed to an order that has ended does not reach the order now in its slot. -/
theorem test_expiry_of_another_order_is_dropped : did (.windowExpiry ⟨⟨0, 7⟩, 0⟩) moving = moving := by decide +kernel

/-- S0 brakes, and the order of S1 waits for the same legs. -/
def succession : State :=
  let s := withMove homed order0 (braking .done)
  ({ s with acceptance := [0, 1] } : State).setSlot 1 (.queued { order0 with serial := 1 })

/-- R149: a detection made while S0 braked, and not yet taken when its end floats the leg, does not reach the move of S1,
for which the same pass drives the leg again. -/
theorem test_detection_before_float_is_lost :
    (succession.leg 0).state.conducting = true ∧
      ((did (.brakeTimerExpiry ⟨0, 0⟩) succession).leg 0).state.conducting = true ∧
      did (.overCurrent ⟨0, 0⟩) (did (.brakeTimerExpiry ⟨0, 0⟩) succession) = did (.brakeTimerExpiry ⟨0, 0⟩) succession ∧
      ((did (.overCurrent ⟨0, 1⟩) (did (.brakeTimerExpiry ⟨0, 0⟩) succession)).leg 0).state = .off := by
  decide +kernel

/-- R102: a pulse taken first restarts the window, and the expiry of the run before is dropped. -/
theorem test_window_expiry_after_a_pulse_is_dropped :
    did (.windowExpiry ⟨⟨0, 0⟩, 0⟩) (did (.ripplePulse 0) moving) = did (.ripplePulse 0) moving := by decide +kernel

/-- R118, R120: the expiry of an abandoned restart delay, taken while the next delay runs, is dropped. -/
theorem test_expiry_of_an_abandoned_restart_delay_is_dropped :
    let s := did .supplyInRange (did .supplyOut (did .supplyInRange { live with supply := .out, armed := true }))
    s.restartRun = 2 ∧ did (.restartDelayExpiry 1) s = s ∧ (did (.restartDelayExpiry 2) s).supply = .inRange := by
  decide +kernel

/-- R157, R169: a flag set after the capture of 02h and before its read shows in the 03h byte. -/
theorem test_flag_set_before_the_read_of_02h_is_seen :
    (did (.registerWrite 0) (did .holdReleased (did .holdAsserted (rd live 0x02)))).sdo = some 0x01 := by decide +kernel

/-- Two records, with final positions 0702h at the head and 0305h behind it. -/
def twoDone : State :=
  (({ homed with completion := [0, 1] } : State).setSlot 0
    (.done { homed.recordOf order0 .done with position := 0x0702 })).setSlot 1
    (.done { homed.recordOf order0 .done with position := 0x0305 })

/-- R151, R172: a read of 34h, the removal at 39h and, after a wrap, 34h and 35h: the low byte is the new head's, the
high byte the removed record's or the new head's. -/
theorem test_bytes_after_a_removal_and_a_wrap :
    let s := did .completionPop (rd (did .completionWindowRead (rd twoDone 0x34)) 0x39)
    s.completion = [1] ∧ (rd s 0x34).sdo = some 0x05 ∧
      (did .completionWindowRead (rd s 0x34)).sdo = some (if Config.wrapShowsRemoved then 0x07 else 0x03) :=
  ⟨by decide +kernel, by decide +kernel, rfl⟩

/-- R157, R169: a flag set after the capture of the 03h byte shows in it or not. -/
theorem test_flag_set_after_the_capture_of_03h :
    (did .holdReleased (did .holdAsserted (rd live 0x03))).sdo = some (if Config.lateFlagShows then 0x01 else 0x00) := rfl

/-- R152: under the empty view the capture of 34h places 00h in the shadow. -/
theorem test_capture_under_the_empty_view :
    (did .completionWindowRead (rd live 0x33)).shadowFinal = some 0 := by decide +kernel

/-- R21: a MOD leg modulates with the current duty of its DRIVE claim's owner. -/
theorem test_mod_leg_modulates_with_the_duty : moving.highSide 0 = .modulated 48 ∧ moving.lowSide 1 = .on := by
  decide +kernel

/-! ### Every statement's hypotheses are met -/

theorem test_witness_StepTakesFrontCommand : ({ live with pending := [.run] } : State).pending = .run :: [] := rfl

theorem test_witness_EmptyQueueLetsTimePass :
    State.reset.pending = [] ∧ State.reset.inReset = true ∧ live.pending = [] ∧ live.inReset = false ∧
      (moving.slot 0 = .active order0 move0 ∧ move0.phase.driving = true) ∧
      (withMove homed order0 (braking .done)).slot 0 = .active order0 (braking .done) ∧
      (withMove homed order0 held).slot 0 = .active order0 held ∧
      (withMove homed order0 suspended).slot 0 = .active order0 suspended ∧
      waiting.slot 0 = .waiting (fence 1) 20000 ∧ (live.slot 15).isActive = false ∧
      (did .holdAsserted moving).leg 0 = { newLeg (.brk .low 4) [⟨0, .drive⟩] with run := 1 } ∧
      (∀ d n, (live.leg 5).state ≠ .brk d n) ∧
      ({ live with supply := .recovering 1 } : State).supply = .recovering 1 ∧
      (∀ n, live.supply ≠ .recovering n) ∧ ∀ c, ¬ moving.expiryDue c := by
  refine ⟨rfl, rfl, rfl, rfl, ?_, ?_, ?_, ?_, ?_, ?_, ?_, ?_, rfl, ?_, ?_⟩
  case refine_8 =>
    intro d n h
    cases h
  iterate 7 decide +kernel
  · intro n h
    cases h
  · intro c hc
    have h : moving.dues = [] := by decide +kernel
    have hm := (mem_dues _ c).2 hc
    rw [h] at hm
    cases hm

theorem test_witness_DueExpiriesAreTaken :
    (waiting.setSlot 0 (.waiting (fence 1) 0)).pending = [] ∧
      (waiting.setSlot 0 (.waiting (fence 1) 0)).inReset = false ∧
      (waiting.setSlot 0 (.waiting (fence 1) 0)).expiryDue (.fenceDelayExpiry ⟨0, 0⟩) ∧
      ∀ d, (waiting.setSlot 0 (.waiting (fence 1) 0)).expiryDue d → d = .fenceDelayExpiry ⟨0, 0⟩ := by
  refine ⟨rfl, rfl, ⟨fence 1, by decide +kernel⟩, fun d hd => ?_⟩
  have h : (waiting.setSlot 0 (.waiting (fence 1) 0)).dues = [.fenceDelayExpiry ⟨0, 0⟩] := by decide +kernel
  have hm := (mem_dues _ d).2 hd
  rw [h] at hm
  simpa using hm

theorem test_witness_ResetEndTakesTheMonitors :
    State.reset.inReset = true ∧ State.reset.supply = .out ∧ State.reset.armed = true := ⟨rfl, rfl, rfl⟩

theorem test_witness_CommandsThatDoNotArise :
    (State.reset.inReset = true ∧ Instr.run ≠ .fullReset ∧ ∀ d v h l, Instr.run ≠ .resetEnd d v h l) ∧
      live.inReset = false ∧ (Instr.run.writeAddrs ≠ [] ∧ ∀ a ∈ Instr.run.writeAddrs, ¬ live.Writing a) ∧
      (0x01 ∈ commandCodes ∧ 0x3F ∈ commandCodes) ∧ (wr live 0x00).port ≠ .idle ∧
      (∀ st, live.port ≠ .header st) ∧ live.port = .idle ∧ (∀ a c, ¬ live.Reading a c) ∧
      ((rd live 0x39).Reading 0x39 (live.capture 0x39) ∧ ¬ ((0x30 : Addr) ≤ 0x39 ∧ (0x39 : Addr) ≤ 0x38)) ∧
      ∀ w a c, live.port ≠ .data w a c := by
  refine ⟨⟨rfl, by decide, by intro d v h l e; cases e⟩, rfl, ⟨by decide, ?_⟩, by decide, by decide, ?_, rfl, ?_,
    ⟨reading_rd _ _ rfl, by decide⟩, ?_⟩
  · rintro a _ ⟨_, out, h⟩
    cases h
  · intro st h
    cases h
  · rintro a c ⟨_, h⟩
    cases h
  · intro w a c h
    cases h

theorem test_witness_SelnFallingCapturesStatusByte :
    live.inReset = false ∧ live.port = .idle ∧ ({ live with port := .header 0 } : State).port = .header 0 ∧
      ∃ t, exec .warnRise { live with port := .header 0 } = .next t := ⟨rfl, rfl, rfl, _, rfl⟩

theorem test_witness_HeaderByteOpensTransfer :
    ({ live with port := .header 0 } : State).inReset = false ∧
      ({ live with port := .header 0 } : State).port = .header 0 ∧ (0x80 : Byte).getLsbD 7 = true ∧
      (0x7F : Byte).getLsbD 7 = false ∧ ∃ t, exec (.headerByte 0x7F) { live with port := .header 0 } = .next t :=
  ⟨rfl, rfl, by decide, by decide, _, rfl⟩

theorem test_witness_TransferEndReturnsToIdle :
    (wr live 0x7F).inReset = false ∧ (∃ w a c, (wr live 0x7F).port = .data w a c) ∧
      (∃ b, ({ live with port := .header 0 } : State).port = .header b) ∧
      ({ live with port := .ignore } : State).port = .ignore := ⟨rfl, ⟨_, _, _, rfl⟩, ⟨_, rfl⟩, rfl⟩

theorem test_witness_StoredByteReadsBack :
    ((wr live 0x08).Writing 0x08 ∧ storedAsWritten 0x08 = true) ∧
      ((wr live 0x4E).Writing 0x4E ∧ storedAsWritten 0x4E = true) ∧
      ((wr live 0x3A).Writing 0x3A ∧ (15 : Byte).toNat = (15 : SlotNo).val ∧ 16 ≤ (16 : Byte).toNat) :=
  ⟨⟨writing_wr _ _ rfl, by decide⟩, ⟨writing_wr _ _ rfl, by decide⟩, writing_wr _ _ rfl, by decide, by decide⟩

theorem test_witness_SettingsAreStoredClamped :
    ((wr live 0x18).Writing 0x18 ∧ storedRange 0x18 = some (1, 16)) ∧
      ((wr live 0x67).Writing 0x67 ∧ storedRange 0x67 = some (8, 64)) ∧ (wr live 0x1F).Writing 0x1F :=
  ⟨⟨writing_wr _ _ rfl, by decide⟩, ⟨writing_wr _ _ rfl, by decide⟩, writing_wr _ _ rfl⟩

theorem test_witness_DiscardedWritesChangeNothing :
    ((wr live 0x00).Writing 0x00 ∧ (readOnly 0x00 || unassigned 0x00) = true) ∧
      ((wr live 0x7F).Writing 0x7F ∧ (readOnly 0x7F || unassigned 0x7F) = true) ∧ unassigned 0x0F = true :=
  ⟨⟨writing_wr _ _ rfl, by decide⟩, ⟨writing_wr _ _ rfl, by decide⟩, by decide⟩

theorem test_witness_RegisterWriteActsAsItsRow :
    (wr live 0x02).Writing 0x02 ∧ (wr live 0x03).Writing 0x03 ∧ (wr live 0x04).Writing 0x04 ∧
      (wr live 0x05).Writing 0x05 ∧ (wr live 0x07).Writing 0x07 ∧ (wr live 0x1D).Writing 0x1D ∧
      (wr live 0x1E).Writing 0x1E ∧ (wr live 0x28).Writing 0x28 ∧ (wr live 0x40).Writing 0x40 ∧
      (wr live 0x4F).Writing 0x4F := by
  have h : ∀ a, (wr live a).Writing a := fun a => writing_wr live a rfl
  simp only [h, and_self]

theorem test_witness_PlainReadAdvances :
    ((rd live 0x2F).Reading 0x2F (live.capture 0x2F) ∧ ¬ ((0x30 : Addr) ≤ 0x2F ∧ (0x2F : Addr) ≤ 0x39)) ∧
      ((rd live 0x30).Reading 0x30 (live.capture 0x30) ∧ (0x30 : Addr) ≤ 0x38) ∧
      (rd live 0x39).Reading 0x39 (live.capture 0x39) ∧ (rd live 0x50).Reading 0x50 (live.capture 0x50) ∧
      (rd live 0x03).Reading 0x03 (live.capture 0x03) ∧ live.capture 0x03 = (rd live 0x03).capture 0x03 :=
  ⟨⟨reading_rd _ _ rfl, by decide⟩, ⟨reading_rd _ _ rfl, by decide⟩, reading_rd _ _ rfl, reading_rd _ _ rfl,
    reading_rd _ _ rfl, rfl⟩

theorem test_witness_ReadsSetViewAndShadow :
    ((rd finished 0x34).Reading 0x34 (finished.capture 0x34) ∧ (0x30 : Addr) ≤ 0x34 ∧ (0x34 : Addr) ≤ 0x38) ∧
      (rd finished 0x36).Reading 0x36 (finished.capture 0x36) ∧
      ((rd live 0x33).Reading 0x33 (live.capture 0x33) ∧ (live.capture 0x33).empty = true) ∧
      ((rd live 0x35).Reading 0x35 (live.capture 0x35) ∧ (live.capture 0x35).empty = true) ∧
      (rd live 0x50).Reading 0x50 (live.capture 0x50) ∧ live.shadowPosition = none ∧
      (finished.completion = 0 :: [] ∧ finished.slot 0 = .done (homed.recordOf order0 .done) ∧
        finished.emptyView = false ∧ (finished.capture 0x34).empty = false ∧ finished.shadowFinal = none ∧
        finished.shadowDriven = none ∧ ({ finished with shadowFinal := some 1 } : State).shadowFinal = some 1 ∧
        ({ finished with shadowDriven := some 1 } : State).shadowDriven = some 1) ∧
      ((0x30 : Addr) ≤ 0x39 ∧ (0x39 : Addr) ≤ 0x39 ∧ live.completion = []) :=
  ⟨⟨reading_rd _ _ rfl, by decide, by decide⟩, reading_rd _ _ rfl, ⟨reading_rd _ _ rfl, by decide +kernel⟩,
    ⟨reading_rd _ _ rfl, by decide +kernel⟩, reading_rd _ _ rfl, rfl, by decide +kernel, by decide, by decide, rfl⟩

theorem test_witness_PopFreesTheHead :
    ((rd live 0x39).Reading 0x39 (live.capture 0x39) ∧ (live.capture 0x39).empty = true) ∧
      ((rd finished 0x39).Reading 0x39 (finished.capture 0x39) ∧ (finished.capture 0x39).empty = false ∧
        (rd finished 0x39).emptyView = false ∧ (rd finished 0x39).completion = 0 :: [] ∧
        (rd finished 0x39).PoolLaw) :=
  ⟨⟨reading_rd _ _ rfl, by decide +kernel⟩, reading_rd _ _ rfl, by decide +kernel, rfl, rfl, by decide +kernel⟩

theorem test_witness_WindowShowsTheState :
    (finished.completion = 0 :: [] ∧ finished.slot 0 = .done (homed.recordOf order0 .done) ∧
      finished.emptyView = false ∧ finished.shadowFinal = none ∧ finished.shadowDriven = none) ∧
      live.completion = [] ∧ (moving.leg 0).claims = [⟨0, .drive⟩] ∧
      ((∀ c ∈ (moving.leg 1).claims, c.type = .ret) ∧ (moving.leg 1).claims.length ≤ 5) ∧
      (moving.slot moving.slotSel = .active order0 move0 ∧ move0.phase.driving = true ∧ move0.extHeld = false) ∧
      held.phase.driving = false ∧ live.slot live.slotSel = .free ∧
      (queued order0).slot (queued order0).slotSel = .queued order0 ∧
      waiting.slot waiting.slotSel = .waiting (fence 1) 20000 ∧
      finished.slot finished.slotSel = .done (homed.recordOf order0 .done) ∧
      ((moving.act moving.actSel).activeSlot = some 0 ∧ (live.act live.actSel).activeSlot = none) ∧
      ({ live with assignedSlot := some 15 } : State).assignedSlot = some 15 := by
  decide +kernel

theorem test_witness_FlagsWriteClearsFlags :
    (wr live 0x02).Writing 0x02 ∧ (wr live 0x03).Writing 0x03 ∧
      (exec (.overCurrent ⟨0, 0⟩) moving = .next (did (.overCurrent ⟨0, 0⟩) moving) ∧ moving.flags.getLsbD 1 = false ∧
        (did (.overCurrent ⟨0, 0⟩) moving).flags.getLsbD 1 = true) :=
  ⟨writing_wr _ _ rfl, writing_wr _ _ rfl, rfl, by decide +kernel, by decide +kernel⟩

theorem test_witness_MaskWriteStoresTheMask : (wr live 0x04).Writing 0x04 ∧ (wr live 0x05).Writing 0x05 :=
  ⟨writing_wr _ _ rfl, writing_wr _ _ rfl⟩

theorem test_witness_AttnShowsSelectedFlags : live.StoreLaw ∧ finished.StoreLaw := by decide +kernel

theorem test_witness_ActSelWriteLoadsThePage :
    (wr live 0x40).Writing 0x40 ∧ (7 : Byte).toNat = (7 : ActNo).val ∧ 8 ≤ (8 : Byte).toNat ∧
      (∃ t, exec .fullReset live = .next t) ∧ ∃ t, exec .motionReset (wr live 0x07) = .next t :=
  ⟨writing_wr _ _ rfl, by decide, by decide, ⟨_, rfl⟩, _, rfl⟩

/-- A QUEUED order with PASS 3: under the limit 4 it does not press, the limit 3 makes it press, the limit 5 does not. -/
theorem test_witness_LimitAndCapWrites :
    (wr (queued { order0 with pass := 3 }) 0x1D).Writing 0x1D ∧
      ((queued { order0 with pass := 3 }).slot 0 = .queued { order0 with pass := 3 } ∧
        (3 : Byte).toNat ≤ (3 : BitVec 4).toNat ∧ ¬ (4 : Byte).toNat ≤ (3 : BitVec 4).toNat ∧
        ¬ (5 : Byte).toNat ≤ (3 : BitVec 4).toNat) ∧
      (wr live 0x1E).Writing 0x1E ∧ live.thermal ≠ .warm ∧
      ((did .warnRise moving).thermal = .warm ∧
        ((did .warnRise moving).slot 0 = .active order0 { move0 with duty := 40 }) ∧
        (withMove homed order0 held).slot 0 = .active order0 held ∧ (moving.slot 1).move = none) :=
  ⟨writing_wr _ _ rfl, by decide +kernel, writing_wr _ _ rfl, by decide, by decide +kernel⟩

theorem test_witness_SubmitRefusedChangesNothing :
    (wr live 0x28).Writing 0x28 ∧ live.submitRefusal = some .badKind ∧ (wr live 0x2A).Writing 0x2A ∧
      live.assignedSlot = none ∧ (∃ t, exec .fullReset live = .next t) ∧ (wr live 0x07).Writing 0x07 ∧
      ∃ t, exec .motionReset (wr live 0x07) = .next t := by
  refine ⟨writing_wr _ _ rfl, ?_, writing_wr _ _ rfl, rfl, ⟨_, rfl⟩, writing_wr _ _ rfl, _, rfl⟩
  rw [State.submitRefusal, if_neg (by decide +kernel), if_pos (by decide +kernel)]

theorem test_witness_SubmitAcceptedQueuesTheOrder :
    (wr { homed with staging := stage0 } 0x28).Writing 0x28 ∧
      ({ homed with staging := stage0 } : State).submitRefusal = none ∧ order0.kind ≠ .fence ∧
      (fence 0).kind = .fence := by
  refine ⟨writing_wr _ _ rfl, ?_, by decide, by decide⟩
  unfold State.submitRefusal
  decide +kernel

theorem test_witness_ApplyRefusedChangesNothing :
    (wr moving 0x4F).Writing 0x4F ∧ (∃ i, (moving.slot i).ordersFor moving.actSel = true) ∧
      ((∀ i, (live.slot i).ordersFor live.actSel = false) ∧ ({ wiring with startWin := 0 } : ActConfig).refused) ∧
      (¬ wiring.refused ∧ ({ homed with actSel := 7, page := wiring } : State).pairTaken 7 wiring) ∧
      (¬ ({ wiring with negLeg := 3 } : ActConfig).refused ∧
        ¬ moving.pairTaken 7 { wiring with negLeg := 3 }) ∧
      ({ wiring with negLeg := 3 } : ActConfig).enable = 1 ∧
      (moving.setLeg 2 (newLeg .low [⟨1, .ret⟩])).wouldDrive { wiring with negLeg := 3 } := by
  refine ⟨writing_wr _ _ rfl, ⟨0, by decide +kernel⟩, ⟨by decide +kernel, .inl rfl⟩,
    ⟨by unfold ActConfig.refused; decide +kernel, by unfold State.pairTaken; decide +kernel⟩,
    ⟨by unfold ActConfig.refused; decide +kernel, by unfold State.pairTaken; decide +kernel⟩, rfl, 0, 2, by decide,
    by decide, .inl ⟨⟨0, by decide +kernel⟩, by decide +kernel⟩⟩

theorem test_witness_ApplyAcceptedCopiesThePage :
    (wr { live with page := wiring } 0x4F).Writing 0x4F ∧ (∀ i, (live.slot i).ordersFor live.actSel = false) ∧
      ¬ wiring.refused ∧ ¬ live.pairTaken live.actSel wiring ∧ ¬ (wiring.enable = 1 ∧ live.wouldDrive wiring) := by
  refine ⟨writing_wr _ _ rfl, by decide +kernel, by unfold ActConfig.refused; decide +kernel,
    by unfold State.pairTaken; decide +kernel, ?_⟩
  rintro ⟨_, p, n, _, _, h⟩
  have hc : ∀ k : LegNo, (live.leg k).claims = [] := by decide +kernel
  simp [hc] at h

theorem test_witness_SetPositionPlacesTheActuator :
    (wr live 0x07).Writing 0x07 ∧ 8 ≤ ({ live with cmdArg := 8 } : State).cmdArg.toNat ∧
      ({ live with cmdArg := 7 } : State).cmdArg.toNat = (7 : ActNo).val ∧ (live.act 7).config.enable ≠ 1 ∧
      (moving.act 0).activeSlot ≠ none ∧ ((homed.act 0).config.enable = 1 ∧ (homed.act 0).activeSlot = none) :=
  ⟨writing_wr _ _ rfl, by decide, by decide, by decide +kernel, by decide +kernel, by decide +kernel⟩

theorem test_witness_RunClearThermalAndUnknown :
    (wr live 0x07).Writing 0x07 ∧
      ((wr { live with thermal := .cooled } 0x07).Writing 0x07 ∧
        ({ live with thermal := .cooled } : State).thermal = .cooled ∧
        ({ live with thermal := .cooled } : State).MonitorLaw ∧
        ({ live with thermal := .cooled } : State).DemandLaw) ∧
      live.thermal ≠ .cooled ∧ (0x00 ∉ commandCodes ∧ 0x40 ∉ commandCodes) :=
  ⟨writing_wr _ _ rfl, ⟨writing_wr _ _ rfl, rfl, by decide +kernel, by decide +kernel⟩, by decide, by decide⟩

theorem test_witness_StopEndsActiveOrders : (wr moving 0x07).Writing 0x07 ∧ (wr moving 0x07).PoolLaw :=
  ⟨writing_wr _ _ (by decide +kernel), by decide +kernel⟩

theorem test_witness_ResumeReturnsSuspendedMoves :
    (wr { live with supply := .out } 0x07).Writing 0x07 ∧ ({ live with supply := .out } : State).supply ≠ .inRange ∧
      live.supply = .inRange ∧ (live.slot 0).inPhase (· == .suspended) = false ∧
      (suspended.phase = .suspended ∧ suspended.holdPending = false) ∧
      ((withMove homed order0 suspended).slot 0 = .active order0 suspended) ∧
      ((homed.reenter order0 { suspended with timeoutLeft := some 0 }).phase.driving = true ∧
        (homed.reenter order0 { suspended with timeoutLeft := some 0 }).timeoutLeft = some 0) ∧
      (homed.reenter order0 suspended).timeoutLeft ≠ some 0 ∧
      ((withMove homed order0 { suspended with holdPending := true }).slot 0 =
        .active order0 { suspended with holdPending := true }) :=
  ⟨writing_wr _ _ rfl, by decide, rfl, by decide +kernel⟩

theorem test_witness_CancelsWithdrawMatchedOrders :
    (wr (queued order0) 0x07).Writing 0x07 ∧ (wr (queued order0) 0x07).PoolLaw ∧
      8 ≤ ({ live with cmdArg := 8 } : State).cmdArg.toNat ∧ 16 ≤ ({ live with cmdArg := 16 } : State).cmdArg.toNat ∧
      ({ live with cmdArg := 7 } : State).cmdArg.toNat = (7 : ActNo).val ∧
      ({ live with cmdArg := 15 } : State).cmdArg.toNat = (15 : SlotNo).val ∧
      (∃ p : SlotNo → Bool, ∀ i, p i = true ↔ ∃ o, ((queued order0).slot i).order = some o ∧ o.tag = 7) ∧
      ((0 : SlotNo) ∈ (queued order0).acceptance ∧ ((queued order0).slot 0).endsAtOnce = true) ∧
      (∀ i ∈ moving.acceptance, (moving.slot i).endsAtOnce = false) :=
  ⟨writing_wr _ _ (by decide +kernel), by decide +kernel, by decide, by decide, by decide, by decide,
    ⟨fun i => ((queued order0).slot i).order.any fun o => o.tag == 7, by intro i; simp [Option.any_eq_true]⟩,
    by decide +kernel, by decide +kernel⟩

theorem test_witness_ClearLegReturnsLatchedLegs :
    (wr live 0x07).Writing 0x07 ∧ (0x40 : Byte).getLsbD 6 = true ∧ (0x80 : Byte).getLsbD 7 = true ∧
      ((0x3F : Byte).getLsbD 6 = false ∧ (0x3F : Byte).getLsbD 7 = false) ∧
      ((0x20 : Byte).getLsbD (5 : LegNo).val = true ∧
        ((live.setLeg 5 (newLeg .off [])).leg 5).state = .off) ∧
      (0x20 : Byte).getLsbD (0 : LegNo).val = false :=
  ⟨writing_wr _ _ rfl, by decide, by decide, by decide, by decide +kernel, by decide⟩

theorem test_witness_MotionResetDiscardsTheFlight :
    (wr moving 0x07).Writing 0x07 ∧ (moving.act 1).activeSlot = none ∧
      ((moving.act 0).activeSlot ≠ none ∧ (moving.act 0).valid = true) ∧
      ∀ a, (live.act a).activeSlot ≠ none → (live.act a).valid = false :=
  ⟨writing_wr _ _ (by decide +kernel), by decide +kernel, by decide +kernel, by decide +kernel⟩

theorem test_witness_StrayPulseCountsStray :
    live.inReset = false ∧ (live.act 0).config.enable ≠ 1 ∧
      ((withMove homed order0 (braking .endFound)).slot 0 = .active order0 (braking .endFound) ∧
        ((withMove homed order0 (braking .endFound)).act 0).activeSlot = some 0) ∧
      ((homed.act 0).config.enable = 1 ∧ (homed.act 0).activeSlot = none ∧ (homed.act 0).valid = true ∧
        (homed.act 0).config.strayLimit ≠ 0 ∧ ¬ (homed.act 0).config.strayLimit ≤ (homed.act 0).stray + 1) ∧
      ((homed.setAct 0 { homed.act 0 with stray := 7 }).act 0).config.strayLimit ≤ 8 := by
  decide +kernel

/-- The clauses of MOVE pulses: no drive, at the target, into the zone, short of both. -/
theorem test_witness_MovePulseCounts :
    ((moving.inReset = false ∧ (moving.act 0).config.enable = 1 ∧ (moving.act 0).activeSlot = some 0 ∧
      moving.slot 0 = .active order0 move0 ∧ order0.actuator = 0) ∧
      (held.phase.driving = false ∧ ¬ (held.phase = .braking ∧ held.outcome = some .endFound)) ∧
      (move0.phase.driving = true ∧ move0.dir = .opening ∧ (1 : Int) ≤ ((0 : Half) + 1).toInt)) ∧
      (move0.phase = .running ∧ move0.extHeld = false ∧ ¬ (17 : Int) ≤ ((0 : Half) + 1).toInt ∧
        ((17 : Int) - ((0 : Half) + 1).toInt).natAbs ≤ wiring.approach.toNat) ∧
      (¬ (100 : Int) ≤ ((0 : Half) + 1).toInt ∧ wiring.approach.toNat < ((100 : Int) - ((0 : Half) + 1).toInt).natAbs) ∧
      ((0x7FFF : Half) = 0x7FFF ∧ (0x8000 : Half) = 0x8000) := by
  decide +kernel

theorem test_witness_RampAndTimeoutExpiry :
    ((withMove homed order0 ramping).inReset = false ∧
      (withMove homed order0 ramping).slot 0 = .active order0 ramping ∧ ramping.phase = .starting ∧
      ramping.extHeld = false ∧ ramping.rampLevel.toNat + ramping.snapshot.step.toNat < ramping.snapshot.run.toNat) ∧
      ((44 : Byte).toNat + ramping.snapshot.step.toNat = ramping.snapshot.run.toNat) ∧
      (({ move0 with timeoutLeft := some 1 } : Move).phase.driving = true ∧
        ({ move0 with timeoutLeft := some 1 } : Move).timeoutLeft ≠ none) ∧
      (live.DemandLaw ∧ (live.slot 0).inPhase (· == .starting) = false ∧
        (live.slot 0).inPhase Phase.driving = false) ∧ ramping.rampRun ≠ 1 := by
  decide +kernel

theorem test_witness_WindowExpiryDecides :
    (moving.inReset = false ∧ moving.slot 0 = .active order0 move0 ∧ move0.phase.driving = true ∧
      order0.kind ≠ .seekEnd) ∧
      ({ order0 with kind := .seekEnd, arg := 1 } : Order).kind = .seekEnd ∧
      (withMove homed { order0 with kind := .seekEnd, arg := 1 } { move0 with target := none }).slot 0 =
        .active { order0 with kind := .seekEnd, arg := 1 } { move0 with target := none } ∧
      (live.slot 0).inPhase Phase.driving = false ∧ move0.windowRun ≠ 1 := by
  decide +kernel

theorem test_witness_EndingExpiries :
    (live.inReset = false ∧ (withMove homed order0 (braking .done)).slot 0 = .active order0 (braking .done) ∧
      (braking .done).phase = .braking ∧ (braking .done).outcome = some .done) ∧
      waiting.slot 0 = .waiting (fence 1) 20000 ∧
      ((withMove homed order0 suspended).slot 0 = .active order0 suspended ∧ suspended.phase = .suspended ∧
        suspended.suspendTimer ≠ none) ∧
      (live.DemandLaw ∧ (live.slot 0).inPhase (· == .braking) = false ∧
        (live.slot 0).inPhase (· == .suspended) = false) ∧ live.slot 0 = .free ∧
      (moving.slot 0).order = some order0 ∧ order0.serial ≠ 1 ∧ suspended.suspendRun ≠ 1 := by
  decide +kernel

theorem test_witness_RestartDelayExpiryReachesIn :
    (({ live with supply := .recovering 0 } : State).inReset = false ∧
      ({ live with supply := .recovering 0 } : State).supply = .recovering 0 ∧ live.settings.autoResume = false) ∧
      ({ live.settings with autoResume := true } : Settings).autoResume = true ∧
      (withMove { homed with supply := .recovering 0 } order0 suspended).slot 0 = .active order0 suspended ∧
      live.restartRun ≠ 1 ∧ ∀ n, live.supply ≠ .recovering n := by
  refine ⟨⟨rfl, rfl, rfl⟩, rfl, by decide +kernel, by decide, ?_⟩
  intro n h
  cases h

/-- A leg in each state under each demand that the statement names. -/
theorem test_witness_LegReactions :
    ((live.setLeg 5 (newLeg .off [])).leg 5).state = .off ∧
      ((live.leg 0).state = .float ∧ live.demand 0 = .float) ∧ ((moving.leg 1).state = .low ∧ moving.demand 1 = .low) ∧
      (((withMove homed order0 held).leg 0).state = .low ∧
        ((withMove homed order0 held).setSlot 0 (.active order0 move0)).demand 0 = .mod) ∧
      ((moving.leg 0).state = .mod ∧ (moving.setSlot 0 (.active order0 held)).demand 0 = .low) ∧
      moving.demand 0 ≠ .low ∧ (did .holdAsserted moving).inReset = false ∧
      (((did .holdAsserted moving).leg 0).state = .brk .low 4 ∧ (did .holdAsserted moving).demand 0 ≠ .float) ∧
      ((did .holdAsserted moving).leg 0).run = 1 := by
  decide +kernel

theorem test_witness_DemandFollowsClaims :
    (live.leg 0).claims = [] ∧ ((moving.leg 0).claims = [⟨0, .drive⟩] ∧ moving.slot 0 = .active order0 move0) ∧
      (move0.duty < 64 ∧ ({ move0 with duty := 63 } : Move).duty < 64 ∧ ({ move0 with duty := 64 } : Move).duty = 64) ∧
      ((braking .done).phase = .braking ∧ held.phase = .held ∧ suspended.phase = .suspended) ∧
      ((∀ c ∈ (moving.leg 1).claims, c.type = .ret) ∧
        (⟨0, .ret⟩ : Claim) ∈ (moving.leg 1).claims ∧ move0.phase ≠ .suspended) ∧
      ((withMove homed order0 suspended).leg 1).claims = [⟨0, .ret⟩] ∧
      ((live.leg 5).state = .float ∧ (moving.leg 1).state = .low ∧ (moving.leg 0).state = .mod ∧
        ((withMove homed order0 { move0 with duty := 64 }).leg 0).state = .high ∧
        ((withMove homed { order0 with ext := true } { move0 with extHeld := true }).leg 0).state = .ext ∧
        ((did .holdAsserted moving).leg 0).state = .brk .low 4) := by
  decide +kernel

theorem test_witness_OverCurrentLatchesTheLeg :
    (moving.inReset = false ∧ moving.PoolLaw ∧ (moving.leg 0).state = .mod ∧ (moving.leg 1).state = .low) ∧
      (live.leg 5).state = .float ∧ ((live.setLeg 5 (newLeg .off [])).leg 5).state = .off ∧
      ((did .holdAsserted moving).leg 0).state = .brk .low 4 ∧ (moving.leg 0).run ≠ 1 := by
  decide +kernel

theorem test_witness_HoldEvents :
    (moving.inReset = false ∧ moving.holdOn = false ∧ moving.slot 0 = .active order0 move0) ∧
      ((did .holdAsserted moving).holdOn = true ∧ (did .holdAsserted moving).slot 0 = .active order0 held) ∧
      (withMove homed order0 suspended).slot 0 = .active order0 suspended ∧
      ((live.slot 0).inPhase (fun p => p.driving || p == .suspended) = false ∧
        (live.slot 0).inPhase (fun p => p == .held || p == .suspended) = false) ∧
      (homed.reenter order0 { held with timeoutLeft := some 0 }).timeoutLeft = some 0 := by
  decide +kernel

theorem test_witness_SupplyEvents :
    (moving.inReset = false ∧ moving.insideOuter = true ∧ moving.supply = .inRange ∧ moving.PoolLaw ∧
      moving.MoveLaw) ∧
      ((withMove homed order0 (braking .done)).PoolLaw ∧ (withMove homed order0 (braking .done)).MoveLaw) ∧
      ({ live with supply := .out } : State).supply ≠ .inRange ∧
      (({ live with supply := .out, armed := true } : State).armed = true ∧
        ({ live with supply := .out } : State).supply = .out) ∧
      (({ live with armed := true } : State).armed = true ∧ live.supply ≠ .out) ∧
      ({ live with insideOuter := false } : State).insideOuter = false ∧ live.armed = false := by
  decide +kernel

theorem test_witness_ThermalEvents :
    (moving.inReset = false ∧ moving.warnSet = false ∧ moving.thermal = .normal ∧ move0.phase.driving = true ∧
      move0.extHeld = false) ∧
      (({ move0 with extHeld := true } : Move).extHeld = true ∧
        (withMove homed { order0 with ext := true } { move0 with extHeld := true }).slot 0 =
          .active { order0 with ext := true } { move0 with extHeld := true }) ∧
      ({ live with thermal := .shutdown } : State).thermal ≠ .normal ∧
      ((did .warnRise moving).warnSet = true ∧ (did .warnRise moving).thermal = .warm) ∧
      ({ live with thermal := .cooled, warnSet := true } : State).thermal ≠ .warm ∧
      ((did .warnRise moving).shutdownSet = false ∧ (did .warnRise moving).PoolLaw) ∧
      (({ live with thermal := .shutdown, shutdownSet := true } : State).shutdownSet = true ∧
        (did .shutdownRise { live with thermal := .cooled }).thermal = .shutdown) ∧
      (({ live with shutdownSet := true } : State).thermal ≠ .shutdown ∧ live.warnSet = false ∧
        live.shutdownSet = false) := by
  decide +kernel

/-- A pass that ends an order, and one that ends none. -/
theorem test_witness_DispatchIsASeriesOfPasses :
    ((queued (fence 0)).PoolLaw ∧ (queued (fence 0)).completion.length < (queued (fence 0)).pass.completion.length) ∧
      (queued order0).pass.completion.length ≤ (queued order0).completion.length := by
  decide +kernel

theorem test_witness_WalkStopsAtFences :
    ((queued (fence 0)).slot 0 = .queued (fence 0) ∧ (fence 0).kind = .fence ∧ (fence 0).arg = 0 ∧ (fence 1).arg ≠ 0) ∧
      (∀ j ∈ (queued (fence 0)).acceptance.takeWhile (fun j => j != 0),
        (((queued (fence 0)).slot j).isQueued || ((queued (fence 0)).slot j).isActive) = false) ∧
      (({ moving with acceptance := [0, 1] } : State).acceptance.takeWhile (fun j => j != 1) = [0] ∧
        (moving.slot 0).isActive = true ∧ (moving.setSlot 1 (.queued (fence 0))).slot 1 = .queued (fence 0)) ∧
      waiting.slot 0 = .waiting (fence 1) 20000 ∧ moving.slot 0 = .active order0 move0 := by
  decide +kernel

theorem test_witness_WalkJudgesMoveOrders :
    ((queued order0).slot 0 = .queued order0 ∧ order0.kind ≠ .fence ∧ (queued order0).considered 0 order0 = true ∧
      (queued order0).startEnding order0 = none ∧ (queued order0).compatible 0 order0 = true) ∧
      (moving.setSlot 1 (.queued order0)).considered 1 order0 = false ∧
      (queued { order0 with arg := 0 }).startEnding { order0 with arg := 0 } = some .done ∧
      ((queued order0).setLeg 0 (newLeg .low [⟨1, .ret⟩])).compatible 0 order0 = false := by
  decide +kernel

theorem test_witness_StartTimeChecks :
    (homed.setLeg 0 (newLeg .off [])).offAt (homed.config order0).posLeg = true ∧
      (homed.offAt (homed.config order0).posLeg = false ∧ homed.offAt (homed.config order0).negLeg = false) ∧
      (homed.act 0).valid = true ∧ (live.act 0).valid = false ∧
      ((0 : Int) + (0x7FFF : Half).toInt ≤ (0x7FFF : Half).toInt ∧ (0x7FFF : Half).toInt < (1 : Int) + (0x7FFF : Half).toInt ∧
        (-1 : Int) + (0x8000 : Half).toInt < (0x8000 : Half).toInt) := by
  decide +kernel

theorem test_witness_CompatibilityTests :
    legOf (driveLeg (homed.config order0) (homed.direction order0)) = some 0 ∧
      legOf (returnLeg (homed.config order0) (homed.direction order0)) = some 1 ∧ (0 : LegNo) ≠ 1 := by
  decide +kernel

theorem test_witness_StartPlacesClaimsAndRecord :
    (queued order0).slot 0 = .queued order0 ∧ order0.kind ≠ .fence ∧
      legOf (driveLeg ((queued order0).config order0) ((queued order0).direction order0)) = some 0 ∧
      legOf (returnLeg ((queued order0).config order0) ((queued order0).direction order0)) = some 1 ∧
      (0 : LegNo) ≠ 1 ∧
      ((1 : SlotNo) ∈ ({ queued order0 with acceptance := [1, 0] } : State).acceptance.takeWhile (fun j => j != 0) ∧
        ((queued order0).setSlot 1 (.queued { order0 with pass := 3 })).slot 1 = .queued { order0 with pass := 3 } ∧
        (3 : BitVec 4).toNat + 1 = homed.settings.passLimit.toNat ∧
        (4 : BitVec 4).toNat + 1 ≠ homed.settings.passLimit.toNat) ∧
      (homed.target order0 = some 100 ∧ (0 : Int) < 100 ∧
        homed.target { order0 with kind := .moveBy, arg := 0xFFFF } = some (-1) ∧ (-1 : Int) < 0 ∧
        ({ order0 with kind := .seekEnd, arg := 1 } : Order).arg = 1) := by
  decide +kernel

theorem test_witness_DrivePeriodBegins :
    ({ move0 with extHeld := true } : Move).extHeld = true ∧
      (move0.extHeld = false ∧ ((16 : Int) - 0).natAbs ≤ wiring.approach.toNat ∧
        wiring.approach.toNat < ((17 : Int) - 0).natAbs) ∧
      (move0.snapshot.start < move0.snapshot.run ∧
        ({ move0.snapshot with start := 48 } : SpeedClass).run ≤ ({ move0.snapshot with start := 48 } : SpeedClass).start) ∧
      (move0.dir = .opening ∧ (0 : Int) ≤ 0 ∧ ¬ (1 : Int) ≤ 0) ∧ live.thermal ≠ .warm ∧
      ({ live with thermal := .warm } : State).thermal = .warm := by
  decide +kernel

/-- A step that starts a QUEUED order: the byte RUN written to COMMAND. -/
theorem test_witness_StartsOnlyWhenPassesAreAllowed :
    State.reset.running = false ∧ ({ live with holdOn := true } : State).holdOn = true ∧
      ({ live with supply := .recovering 0 } : State).supply = .recovering 0 ∧
      (live.running = true ∧ live.holdOn = false ∧ live.supply = .inRange ∧ live.thermal = .normal) ∧
      ∃ t, step { wr (queued order0) 0x07 with pending := [.run] } = .next t ∧
        ((queued order0).slot 0).isQueued = true ∧ (t.slot 0).isActive = true :=
  ⟨rfl, rfl, rfl, ⟨rfl, rfl, rfl, rfl⟩, _, rfl, by decide +kernel, by decide +kernel⟩

/-- The laws hold together in a state with a move under way, and a step can be taken there. -/
theorem test_witness_laws :
    moving.ClaimLaws ∧ moving.BystanderLaw ∧ moving.PairLaw ∧ moving.OffLaw ∧ moving.DemandLaw ∧ moving.MoveLaw := by
  refine ⟨?_, ?_, ?_, ?_, ?_, ?_⟩ <;> decide +kernel

theorem test_witness_more_laws :
    moving.GrantLaw ∧ moving.MonitorLaw ∧ moving.StoreLaw ∧ moving.DisabledLaw ∧
      ({ moving with serial := 1 } : State).SerialLaw := by
  refine ⟨?_, ?_, ?_, ?_, ?_⟩ <;> decide +kernel

theorem test_witness_law_steps :
    (∃ t, step { moving with pending := [.holdAsserted] } = .next t ∧ (moving.leg 0).state.conducting = true ∧
      (t.leg 0).state.conducting = false) ∧ moving.ThermalLaw :=
  ⟨⟨_, rfl, by decide +kernel, by decide +kernel⟩, by decide +kernel, by decide +kernel⟩

theorem test_witness_RecordHoldsTheEnding :
    (finished.slot 0 = .done (homed.recordOf order0 .done) ∧ ∃ t, step finished = .next t) ∧
      (0 : Half) = (if (fence 0).kind = .fence then 0 else (homed.act 0).position) :=
  ⟨⟨by decide +kernel, _, rfl⟩, by decide +kernel⟩

end Sys2Proof.Tests
end

