-- ==== Sys2Proof/Proofs/ActuatorTable.lean ====
section
/-! PROOF. ACT_SEL and the page (R5): what a write to ACT_SEL does by the value written, and that motion reset leaves both. -/

namespace Sys2Proof.Machine

/-! ### The write to ACT_SEL -/

theorem actOf_of_toNat_eq {v : Byte} {a : ActNo} (h : v.toNat = a.val) : actOf v = some a := by
  have hv : v.toNat < 8 := h ▸ a.isLt
  rw [actOf, dif_pos hv]
  exact congrArg some (Fin.ext h)

theorem actOf_of_le {v : Byte} (h : 8 ≤ v.toNat) : actOf v = none := by
  rw [actOf, dif_neg (Nat.not_lt.2 h)]

theorem writeActSel_selects {v : Byte} {a : ActNo} (s : State) (h : v.toNat = a.val) :
    s.writeActSel v = { s with actSel := a, page := (s.act a).config } := by
  rw [State.writeActSel, actOf_of_toNat_eq h]

theorem writeActSel_discards {v : Byte} (s : State) (h : 8 ≤ v.toNat) : s.writeActSel v = s := by
  rw [State.writeActSel, actOf_of_le h]

theorem writeActSel_port (v : Byte) (s : State) : (s.writeActSel v).port = s.port := by
  unfold State.writeActSel
  split <;> rfl

/-- ACT_SEL_WRITE at its address: its effect, and the pointer at the next address (R168). -/
theorem exec_actSelWrite_at (v : Byte) (s : State) (h : s.Writing 0x40) :
    exec (.actSelWrite v) s = .next ((s.writeActSel v).written 0x40) :=
  calc exec (.actSelWrite v) s
    _ = .next (s.writeActSel v).advance := writeRow_at 0x40 (State.writeActSel v) s h
    _ = .next ((s.writeActSel v).written 0x40) := by rw [advance_write s _ 0x40 h (writeActSel_port v s)]

/-! ### Full reset -/

theorem act_fullReset (s : State) (a : ActNo) : s.fullReset.act a = Actuator.reset :=
  Vector.getElem_replicate a.isLt

/-! ### Motion reset -/

/-- A write row answers the advanced effect at its address and the state itself elsewhere (log 2). -/
theorem writeRow_cases {a : Addr} {f : State → State} {s t : State} (h : writeRow a f s = .next t) :
    (s.Writing a ∧ t = (f s).advance) ∨ (¬ s.Writing a ∧ t = s) := by
  by_cases hw : s.Writing a
  · rw [writeRow_at a f s hw] at h
    exact .inl ⟨hw, (Host.Outcome.next.inj h).symm⟩
  · rw [writeRow_none a f s hw] at h
    exact .inr ⟨hw, (Host.Outcome.next.inj h).symm⟩

@[simp] theorem advance_actSel (s : State) : s.advance.actSel = s.actSel := by
  unfold State.advance
  split <;> rfl

@[simp] theorem advance_page (s : State) : s.advance.page = s.page := by
  unfold State.advance
  split <;> rfl

@[simp] theorem cmdMotionReset_actSel (s : State) : s.cmdMotionReset.actSel = s.actSel := by
  simp only [State.cmdMotionReset, State.resultCount, setFlagIf_eq, mapLegs_actSel, mapActs_actSel]

@[simp] theorem cmdMotionReset_page (s : State) : s.cmdMotionReset.page = s.page := by
  simp only [State.cmdMotionReset, State.resultCount, setFlagIf_eq, mapLegs_page, mapActs_page]

theorem motionReset_keeps_selection {s t : State} (h : exec .motionReset s = .next t) :
    t.actSel = s.actSel ∧ t.page = s.page := by
  obtain ⟨_, rfl⟩ | ⟨_, rfl⟩ := writeRow_cases (a := 0x07) (f := State.cmdMotionReset) h
  · exact ⟨by simp, by simp⟩
  · exact ⟨rfl, rfl⟩

/-- Settles O21, from the effect of the write by its value, the values of full reset, and the frame of motion reset. -/
theorem actSelWriteLoadsThePage : Obligations.ActSelWriteLoadsThePage := by
  refine ⟨fun v s hw => ⟨fun a ha => ?_, fun hv => ?_⟩, fun s t h => ?_, fun s t => motionReset_keeps_selection⟩
  · rw [exec_actSelWrite_at v s hw, writeActSel_selects s ha]; rfl
  · rw [exec_actSelWrite_at v s hw, writeActSel_discards s hv]
  · obtain rfl : s.fullReset = t := Host.Outcome.next.inj h
    exact ⟨rfl, by rw [act_fullReset]; rfl⟩

end Sys2Proof.Machine
end

