-- ==== Sys2Proof/Proofs/OrderPool.lean ====
section
/-! PROOF. SUBMIT and its results (R54 to R58): the checks of a SUBMIT refuse what the table of R54 refuses, and what a refusal and the resets leave at 29h, 2Ah and in the pool. -/

namespace Sys2Proof.Machine

/-! ### What each check of SUBMIT asks (R47, R55, R56) -/

theorem freeSlot_eq_none_iff (s : State) : s.freeSlot = none ↔ ∀ i, (s.slot i).isFree = false := by
  simp [State.freeSlot, List.find?_eq_none]

theorem kindOf_eq_none_iff (b : Byte) : kindOf b = none ↔ b = 0 ∨ 4 < b := by
  revert b
  decide

theorem eq_code_of_kindOf {b : Byte} {k : Kind} (h : kindOf b = some k) : b = k.code := by
  revert b k
  decide

theorem code_injective : Function.Injective Kind.code := by
  intro k l
  cases k <;> cases l <;> decide

theorem actOf_eq_some_iff (b : Byte) (a : ActNo) : actOf b = some a ↔ b.toNat = a.val := by
  refine ⟨fun h => ?_, actOf_of_toNat_eq⟩
  by_contra hne
  unfold actOf at h
  split at h
  · exact hne (congrArg Fin.val (Option.some.inj h))
  · cases h

/-- The staged actuator counts as not enabled also where ACT names no actuator (R56). -/
theorem stagedEnabled_eq_false_iff (s : State) :
    s.stagedEnabled = false ↔ ∀ a : ActNo, s.staging.act.toNat = a.val → (s.act a).config.enable ≠ 1 := by
  simp only [← actOf_eq_some_iff, State.stagedEnabled]
  cases actOf s.staging.act with
  | none => simp
  | some a => simp [ActConfig.enabled]

theorem classOf_eq_none_iff (b : Byte) : classOf b = none ↔ 3 < b := by
  revert b
  decide

theorem outOfRange_iff (c : ActConfig) (target : Int) :
    outOfRange c target = true ↔ target < c.min.toInt ∨ c.max.toInt < target := by
  simp [outOfRange]

/-- Once the check of the actuator has passed, staging ACT names an entry, and the range is that entry's (R56). -/
theorem outOfRange_staged_iff {s : State} (h : s.stagedEnabled = true) :
    outOfRange (s.act ((actOf s.staging.act).getD 0)).config s.staging.arg.toInt = true ↔
      ∃ a : ActNo, s.staging.act.toNat = a.val ∧
        (s.staging.arg.toInt < (s.act a).config.min.toInt ∨ (s.act a).config.max.toInt < s.staging.arg.toInt) := by
  unfold State.stagedEnabled at h
  cases ha : actOf s.staging.act with
  | none => simp [ha] at h
  | some a => simp [← actOf_eq_some_iff, ha, outOfRange_iff]

/-! ### The checks against the table of R54 -/

/-- The code with which the checks refuse, or none where they let the order in. -/
def refusalOf : Except SubmitResult (SlotNo × Order) → Option SubmitResult
  | .error r => some r
  | .ok _ => none

theorem refusalOf_eq_some_iff (x : Except SubmitResult (SlotNo × Order)) (r : SubmitResult) :
    refusalOf x = some r ↔ x = .error r := by
  cases x <;> simp [refusalOf]

/-- A row of the table beside the check of the same condition. -/
theorem refusalOf_row {p q : Prop} [Decidable p] [Decidable q] {r : SubmitResult} {rest : Option SubmitResult}
    {x : Except SubmitResult (SlotNo × Order)} (hpq : p ↔ q) (h : ¬ q → rest = refusalOf x) :
    (if p then some r else rest) = refusalOf (if q then .error r else x) := by
  by_cases hq : q
  · rw [if_pos (hpq.2 hq), if_pos hq, refusalOf]
  · rw [if_neg (mt hpq.1 hq), if_neg hq, h hq]

/-- The checks of a SUBMIT refuse as the table of R54 does, in its order. -/
theorem submitRefusal_eq (s : State) : s.submitRefusal = refusalOf s.checkSubmit := by
  unfold State.submitRefusal State.checkSubmit
  cases hslot : s.freeSlot with
  | none => exact if_pos ((freeSlot_eq_none_iff s).1 hslot)
  | some i =>
    rw [if_neg (by rw [← freeSlot_eq_none_iff, hslot]; exact nofun)]
    cases hkind : kindOf s.staging.kind with
    | none => exact if_pos ((kindOf_eq_none_iff _).1 hkind)
    | some k =>
      have kind_eq (l : Kind) : s.staging.kind = l.code ↔ k = l := by
        rw [eq_code_of_kindOf hkind, code_injective.eq_iff]
      rw [if_neg (by rw [← kindOf_eq_none_iff, hkind]; exact nofun)]
      refine refusalOf_row (and_congr (kind_eq .fence).not (stagedEnabled_eq_false_iff s).symm) fun hact => ?_
      cases hspeed : classOf s.staging.speed with
      | none => exact if_pos ((classOf_eq_none_iff _).1 hspeed)
      | some c =>
        rw [if_neg (by rw [← classOf_eq_none_iff, hspeed]; exact nofun)]
        refine refusalOf_row (and_congr_left' (kind_eq .seekEnd)) fun _ => ?_
        refine refusalOf_row (and_congr_left' (kind_eq .fence)) fun _ => ?_
        refine refusalOf_row ?_ fun _ => rfl
        rw [show s.staging.kind = 1 ↔ k = .moveTo from kind_eq .moveTo]
        refine and_congr_right fun hk => (outOfRange_staged_iff ?_).symm
        simpa [hk] using hact

/-! ### A refused SUBMIT (R58) -/

theorem submitRequest_refused {s : State} {r : SubmitResult} (h : s.submitRefusal = some r) :
    s.submitRequest = s.refuseSubmit r := by
  have hcheck : s.checkSubmit = .error r := (refusalOf_eq_some_iff _ r).1 (submitRefusal_eq s ▸ h)
  rw [State.submitRequest, hcheck]

theorem exec_submit_refused (v : Byte) {r : SubmitResult} {s : State} (hw : s.Writing 0x28)
    (h : s.submitRefusal = some r) : exec (.submit v) s = .next ((s.refuseSubmit r).written 0x28) :=
  calc exec (.submit v) s
    _ = .next s.submitRequest.advance := writeRow_at 0x28 State.submitRequest s hw
    _ = .next (s.refuseSubmit r).advance := by rw [submitRequest_refused h]
    _ = .next ((s.refuseSubmit r).written 0x28) := by rw [advance_write s (s.refuseSubmit r) 0x28 hw rfl]

/-! ### The result and ASSIGNED_SLOT in the window -/

theorem peek_submitResult (s : State) : s.peek 0x29 = s.submitResult.code := rfl

theorem peek_assignedSlot (s : State) : s.peek 0x2A = slotOrNone s.assignedSlot := rfl

theorem takeWrite_assignedSlot (v : Byte) (s : State) : s.takeWrite 0x2A v = s := rfl

theorem exec_write_assignedSlot (v : Byte) (s : State) (hw : s.Writing 0x2A) :
    exec (.registerWrite v) s = .next (s.written 0x2A) :=
  calc exec (.registerWrite v) s
    _ = .next (s.takeWrite 0x2A v).advance := dataByte_write v s 0x2A hw
    _ = .next (s.written 0x2A) := by rw [takeWrite_assignedSlot, advance_write s s 0x2A hw rfl]

/-! ### Motion reset -/

@[simp] theorem cmdMotionReset_port (s : State) : s.cmdMotionReset.port = s.port := by
  simp only [State.cmdMotionReset, State.resultCount, setFlagIf_eq, mapLegs_port, mapActs_port]

@[simp] theorem cmdMotionReset_submitResult (s : State) : s.cmdMotionReset.submitResult = s.submitResult := by
  simp only [State.cmdMotionReset, State.resultCount, setFlagIf_eq, mapLegs_submitResult, mapActs_submitResult]

@[simp] theorem cmdMotionReset_assignedSlot (s : State) : s.cmdMotionReset.assignedSlot = s.assignedSlot := by
  simp only [State.cmdMotionReset, State.resultCount, setFlagIf_eq, mapLegs_assignedSlot, mapActs_assignedSlot]

@[simp] theorem cmdMotionReset_slot (s : State) (i : SlotNo) : s.cmdMotionReset.slot i = .free := by
  simp only [State.cmdMotionReset, State.resultCount, setFlagIf_eq]
  exact Vector.getElem_replicate i.isLt

theorem exec_motionReset_at (s : State) (hw : s.Writing 0x07) :
    exec .motionReset s = .next (s.cmdMotionReset.written 0x07) :=
  calc exec .motionReset s
    _ = .next s.cmdMotionReset.advance := writeRow_at 0x07 State.cmdMotionReset s hw
    _ = .next (s.cmdMotionReset.written 0x07) := by rw [advance_write s _ 0x07 hw (cmdMotionReset_port s)]

/-- Every slot is FREE after motion reset, so the one that ASSIGNED_SLOT still names is too. -/
theorem motionReset_keeps_submitResult {s t : State} (hw : s.Writing 0x07) (h : exec .motionReset s = .next t) :
    t.submitResult = s.submitResult ∧ t.assignedSlot = s.assignedSlot ∧ ∀ i, t.slot i = .free := by
  rw [exec_motionReset_at s hw] at h
  obtain rfl := Host.Outcome.next.inj h
  exact ⟨cmdMotionReset_submitResult s, cmdMotionReset_assignedSlot s, cmdMotionReset_slot s⟩

/-- Settles O23: the checks refuse by the table of R54, and a refusal writes its two fields alone; the rest is the
window at 29h and 2Ah, the values of full reset, and the frame of motion reset. -/
theorem submitRefusedChangesNothing : Obligations.SubmitRefusedChangesNothing := by
  refine ⟨fun v r s hw hr => exec_submit_refused v hw hr, fun s => ⟨peek_submitResult s, fun h => ?_⟩,
    exec_write_assignedSlot, fun s t h => ?_, fun s t hw h => ?_⟩
  · rw [peek_assignedSlot, h, slotOrNone]
  · obtain rfl := Host.Outcome.next.inj h
    exact peek_assignedSlot s.fullReset
  · obtain ⟨hresult, hassigned, hfree⟩ := motionReset_keeps_submitResult hw h
    exact ⟨hresult, hassigned, fun i _ => hfree i⟩

end Sys2Proof.Machine
end

