-- ==== Sys2Proof/Proofs/Dispatcher.lean ====
section
/-! PROOF. No order starts while a condition of R70 holds: a series of passes does nothing then, and outside a series of passes no step makes a slot ACTIVE. -/

namespace Sys2Proof.Machine

/-! ### The conditions of R70 -/

theorem blocked_iff (s : State) :
    s.blocked = true ↔ s.running = false ∨ s.holdOn = true ∨ s.supply = .out ∨ (∃ n, s.supply = .recovering n) ∨
      s.thermal = .shutdown ∨ s.thermal = .cooled := by
  cases h : s.supply <;> simp [State.blocked, h, or_assoc]

theorem blocked_eq_false_iff (s : State) :
    s.blocked = false ↔
      s.running = true ∧ s.holdOn = false ∧ s.supply = .inRange ∧ s.thermal ≠ .shutdown ∧ s.thermal ≠ .cooled := by
  simp [State.blocked, and_assoc]

theorem pass_blocked (s : State) (h : s.blocked = true) : s.pass = s := if_pos h

theorem pass_open (s : State) (h : s.blocked = false) : s.pass = s.walk s.acceptance := by
  rw [State.pass, h]
  rfl

/-! ### Which slots become ACTIVE -/

theorem isActive_of_isQueued {x : SlotState} (h : x.isQueued = true) : x.isActive = false := by
  cases x with
  | queued o => rfl
  | _ => cases h

/-- No slot is ACTIVE in `t`, a move under way or a fence waiting, that was not ACTIVE in `s`. -/
def State.gainsNoActive (s t : State) : Prop := ∀ i, (t.slot i).isActive = true → (s.slot i).isActive = true

/-- A slot is ACTIVE in `t` that was not ACTIVE in `s` only if `t` stands in no condition of R70. -/
def State.startsOnlyOpen (s t : State) : Prop := t.blocked = true → s.gainsNoActive t

/-- The law of R70, read off the slots that were QUEUED. -/
theorem State.startsOnlyOpen.open_of_start {s t : State} {i : SlotNo} (h : s.startsOnlyOpen t)
    (hq : (s.slot i).isQueued = true) (ha : (t.slot i).isActive = true) : t.blocked = false := by
  by_contra hb
  have hactive : (s.slot i).isActive = true := h (by simpa using hb) i ha
  rw [isActive_of_isQueued hq] at hactive
  cases hactive

/-! ### Operations that make no slot ACTIVE, each put after others of the kind -/

namespace State.gainsNoActive

variable {s t : State}

theorem of_slots (h : t.slots = s.slots) : s.gainsNoActive t := by
  intro i
  rw [State.slot, h]
  exact id

theorem refl (s : State) : s.gainsNoActive s := fun _ => id

theorem trans {u : State} (h : s.gainsNoActive t) (k : t.gainsNoActive u) : s.gainsNoActive u :=
  fun i hi => h i (k i hi)

/-- An operation that leaves the slots alone. -/
theorem then_slots {u : State} (hu : u.slots = t.slots) (h : s.gainsNoActive t) : s.gainsNoActive u :=
  h.trans (of_slots hu)

theorem setSlot {x : SlotState} (i : SlotNo) (hx : x.isActive = true → (t.slot i).isActive = true)
    (h : s.gainsNoActive t) : s.gainsNoActive (t.setSlot i x) := by
  refine h.trans fun j hj => ?_
  rw [slot_setSlot] at hj
  split at hj
  · next hij => exact hij ▸ hx hj
  · exact hj

theorem mapSlots {f : SlotNo → SlotState → SlotState} (hf : ∀ i x, (f i x).isActive = x.isActive)
    (h : s.gainsNoActive t) : s.gainsNoActive (t.mapSlots f) := by
  refine h.trans fun i hi => ?_
  rwa [slot_mapSlots, hf] at hi

theorem foldl {α : Type} {f : State → α → State} (hf : ∀ (u : State) (x : α), u.gainsNoActive (f u x)) (l : List α)
    (h : s.gainsNoActive t) : s.gainsNoActive (l.foldl f t) := by
  induction l generalizing t with
  | nil => exact h
  | cons x l ih => exact ih (h.trans (hf t x))

theorem onMove {i : SlotNo} {f : Order → Move → Move} (h : s.gainsNoActive t) : s.gainsNoActive (t.onMove i f) :=
  h.setSlot i fun hx => by rwa [mapMove_isActive] at hx

theorem onMoves {f : Order → Move → Move} (h : s.gainsNoActive t) : s.gainsNoActive (t.onMoves f) :=
  h.mapSlots fun _ => mapMove_isActive f

theorem settle (h : s.gainsNoActive t) : s.gainsNoActive t.settle := h

theorem setFlag {f : Flag} (h : s.gainsNoActive t) : s.gainsNoActive (t.setFlag f) := h

theorem setFlagIf {b : Bool} {f : Flag} (h : s.gainsNoActive t) : s.gainsNoActive (t.setFlagIf b f) := by
  cases b <;> exact h

theorem result {r : CmdResult} (h : s.gainsNoActive t) : s.gainsNoActive (t.result r) := h

theorem resultCount {n : Nat} (h : s.gainsNoActive t) : s.gainsNoActive (t.resultCount n) := h

theorem endOrder {e : Ending} {i : SlotNo} (h : s.gainsNoActive t) : s.gainsNoActive (t.endOrder e i) := by
  refine h.trans fun j hj => ?_
  rw [slot_endOrder] at hj
  split at hj
  · cases hx : t.slot i <;> simp [hx, SlotState.ended, SlotState.isActive] at hj
  · exact hj

theorem endOrders {e : Ending} {is : List SlotNo} (h : s.gainsNoActive t) : s.gainsNoActive (t.endOrders e is) :=
  h.foldl (fun u _ => (refl u).endOrder) is

theorem endBraked {i : SlotNo} (h : s.gainsNoActive t) : s.gainsNoActive (t.endBraked i) := by
  unfold State.endBraked
  split
  · split
    · split
      · exact h.endOrder
      · exact h
    · exact h
  · exact h

theorem brakeMoves {e : Ending} {is : List SlotNo} (h : s.gainsNoActive t) : s.gainsNoActive (t.brakeMoves e is) :=
  h.foldl (fun u _ => (refl u).onMove) is

theorem withdraw {e : Ending} {is : List SlotNo} (h : s.gainsNoActive t) : s.gainsNoActive (t.withdraw e is) :=
  h.brakeMoves.endOrders.settle

theorem expireReentered {u : State} {p : Phase} (h : s.gainsNoActive t) : s.gainsNoActive (t.expireReentered u p) := by
  refine h.mapSlots fun i x => ?_
  split
  · exact mapMove_isActive _ x
  · rfl

theorem returnToDrive {p : Phase} {f : Order → Move → Move} (h : s.gainsNoActive t) :
    s.gainsNoActive (t.returnToDrive p f) :=
  h.onMoves.settle.expireReentered.settle

theorem recap (h : s.gainsNoActive t) : s.gainsNoActive t.recap := h.onMoves

end State.gainsNoActive

/-! ### A series of passes and the port's pointer -/

namespace State.startsOnlyOpen

variable {s t : State}

theorem of_gainsNoActive (h : s.gainsNoActive t) : s.startsOnlyOpen t := fun _ => h

/-- Only the slots of the state before count. -/
theorem of_slots_before {u : State} (hu : u.slots = s.slots) (h : u.startsOnlyOpen t) : s.startsOnlyOpen t :=
  fun hb => (State.gainsNoActive.of_slots hu).trans (h hb)

theorem refl (s : State) : s.startsOnlyOpen s := of_gainsNoActive (.refl s)

/-- A series of passes starts orders only where no condition of R70 holds, since it does nothing elsewhere. -/
theorem dispatch (h : s.gainsNoActive t) : s.startsOnlyOpen t.dispatch := by
  intro hb
  rw [blocked_of_sameOutside (sameOutside_dispatch t)] at hb
  rwa [dispatch_blocked t hb]

theorem dispatchIfEnded {u : State} (h : s.gainsNoActive t) : s.startsOnlyOpen (t.dispatchIfEnded u) := by
  unfold State.dispatchIfEnded
  split
  · exact dispatch h
  · exact of_gainsNoActive h

end State.startsOnlyOpen

theorem slots_advance (s : State) : s.advance.slots = s.slots := by
  unfold State.advance
  split <;> rfl

theorem blocked_advance (s : State) : s.advance.blocked = s.blocked := by
  unfold State.advance
  split <;> rfl

theorem State.startsOnlyOpen.advance {s t : State} (h : s.startsOnlyOpen t) : s.startsOnlyOpen t.advance :=
  fun hb => (h (blocked_advance t ▸ hb)).then_slots (slots_advance t)

/-! ### Timers (R87) -/

open State.startsOnlyOpen (of_gainsNoActive)

theorem startsOnlyOpen_rampExpiry (i : SlotNo) (s : State) : s.startsOnlyOpen (s.rampExpiry i) :=
  of_gainsNoActive (.settle (.onMove (.refl s)))

theorem startsOnlyOpen_timeoutExpiry (i : SlotNo) (s : State) : s.startsOnlyOpen (s.timeoutExpiry i) :=
  of_gainsNoActive (.settle (.onMove (.refl s)))

theorem startsOnlyOpen_windowExpiry (i : SlotNo) (s : State) : s.startsOnlyOpen (s.windowExpiry i) := by
  unfold State.windowExpiry
  split
  · next o m hx =>
    have hactive : (s.slot i).isActive = true := by rw [hx]; rfl
    split
    · split
      · exact of_gainsNoActive (.settle (.setSlot i (fun _ => hactive) (.of_slots rfl)))
      · exact of_gainsNoActive (.settle (.setSlot i (fun _ => hactive) (.refl s)))
    · exact .refl s
  all_goals exact .refl s

theorem startsOnlyOpen_brakeTimerExpiry (i : SlotNo) (s : State) : s.startsOnlyOpen (s.brakeTimerExpiry i) :=
  .dispatchIfEnded (.settle (.endBraked (.refl s)))

theorem startsOnlyOpen_fenceDelayExpiry (i : SlotNo) (s : State) : s.startsOnlyOpen (s.fenceDelayExpiry i) := by
  unfold State.fenceDelayExpiry
  split
  · exact .dispatch (.settle (.endOrder (.refl s)))
  all_goals exact .refl s

theorem startsOnlyOpen_suspendLimitExpiry (i : SlotNo) (s : State) : s.startsOnlyOpen (s.suspendLimitExpiry i) := by
  unfold State.suspendLimitExpiry
  split
  · split
    · exact .dispatch (.settle (.endOrder (.refl s)))
    · exact .refl s
  · exact .refl s

theorem startsOnlyOpen_deadIntervalEnd (k : LegNo) (s : State) : s.startsOnlyOpen (s.deadIntervalEnd k) :=
  of_gainsNoActive (.of_slots rfl)

/-! ### Pulses, monitors and comparators -/

theorem startsOnlyOpen_movePulse (a : ActNo) (i : SlotNo) (m : Move) (s : State) :
    s.startsOnlyOpen (s.movePulse a i m) := by
  unfold State.movePulse
  split
  · exact .refl s
  · dsimp only
    split
    · exact of_gainsNoActive (.settle (.onMove (.setFlagIf (.of_slots rfl))))
    · exact of_gainsNoActive (.onMove (.setFlagIf (.of_slots rfl)))

theorem startsOnlyOpen_ripplePulse (a : ActNo) (s : State) : s.startsOnlyOpen (s.ripplePulse a) := by
  unfold State.ripplePulse
  split
  · split
    · exact of_gainsNoActive (.setFlagIf (.of_slots rfl))
    · split
      · exact startsOnlyOpen_movePulse a _ _ s
      · exact .refl s
  · exact .refl s

theorem startsOnlyOpen_overCurrent (k : LegNo) (s : State) : s.startsOnlyOpen (s.overCurrent k) := by
  unfold State.overCurrent
  split
  · exact .dispatch (.setFlag (.settle (.endOrders (.of_slots rfl))))
  · exact .refl s

theorem startsOnlyOpen_holdAsserted (s : State) : s.startsOnlyOpen s.holdAsserted := by
  unfold State.holdAsserted
  split
  · exact .refl s
  · exact of_gainsNoActive (.settle (.onMoves (.of_slots rfl)))

theorem startsOnlyOpen_holdReleased (s : State) : s.startsOnlyOpen s.holdReleased := by
  unfold State.holdReleased
  split
  · exact .dispatch (.returnToDrive (.onMoves (.of_slots rfl)))
  · exact .refl s

theorem startsOnlyOpen_loseSupply {s t : State} (h : s.gainsNoActive t) : s.startsOnlyOpen t.loseSupply :=
  .dispatchIfEnded (.settle (.foldl (fun u _ => (State.gainsNoActive.refl u).endBraked) _
    (.onMoves (.then_slots (t := t) rfl h))))

theorem startsOnlyOpen_supplyOut (s : State) : s.startsOnlyOpen s.supplyOut := by
  unfold State.supplyOut
  split
  · dsimp only
    split
    · exact startsOnlyOpen_loseSupply (.of_slots rfl)
    all_goals exact of_gainsNoActive (.of_slots rfl)
  · exact .refl s

theorem slots_recover (s : State) : s.recover.slots = s.slots := by
  unfold State.recover
  split <;> rfl

theorem slots_supplyInRange (s : State) : s.supplyInRange.slots = s.slots := by
  unfold State.supplyInRange
  split
  · exact slots_recover _
  · rfl

theorem startsOnlyOpen_supplyInRange (s : State) : s.startsOnlyOpen s.supplyInRange :=
  of_gainsNoActive (.of_slots (slots_supplyInRange s))

theorem startsOnlyOpen_outerWindowReentry (s : State) : s.startsOnlyOpen s.outerWindowReentry :=
  of_gainsNoActive (.of_slots rfl)

theorem startsOnlyOpen_restartDelayExpiry (s : State) : s.startsOnlyOpen s.restartDelayExpiry := by
  unfold State.restartDelayExpiry
  split
  · refine .dispatch ?_
    split
    · exact .returnToDrive (.of_slots rfl)
    · exact .of_slots rfl
  all_goals exact .refl s

theorem startsOnlyOpen_warnRise (s : State) : s.startsOnlyOpen s.warnRise := by
  unfold State.warnRise
  split
  · exact .refl s
  · dsimp only
    split
    · exact of_gainsNoActive (.settle (.recap (.of_slots rfl)))
    · exact of_gainsNoActive (.of_slots rfl)

theorem startsOnlyOpen_warnFall (s : State) : s.startsOnlyOpen s.warnFall := by
  unfold State.warnFall
  split
  · dsimp only
    split
    · exact of_gainsNoActive (.settle (.recap (.of_slots rfl)))
    · exact of_gainsNoActive (.of_slots rfl)
  · exact .refl s

theorem startsOnlyOpen_shutdownRise (s : State) : s.startsOnlyOpen s.shutdownRise := by
  unfold State.shutdownRise
  split
  · exact .dispatchIfEnded (.settle (.endOrders (.of_slots rfl)))
  · exact .refl s

theorem startsOnlyOpen_shutdownFall (s : State) : s.startsOnlyOpen s.shutdownFall := by
  unfold State.shutdownFall
  split
  · dsimp only
    split <;> exact of_gainsNoActive (.of_slots rfl)
  · exact .refl s

/-! ### Resets and time -/

theorem slot_fullReset (s : State) (i : SlotNo) : s.fullReset.slot i = .free :=
  Vector.getElem_replicate i.isLt

theorem startsOnlyOpen_of_free {s t : State} (h : ∀ i, t.slot i = .free) : s.startsOnlyOpen t := by
  refine of_gainsNoActive fun i hi => ?_
  rw [h] at hi
  cases hi

theorem slots_takeDie (die : DieAtReset) (s : State) : (s.takeDie die).slots = s.slots := by
  cases die <;> rfl

theorem slots_takeVbr (vbr : VbrAtReset) (s : State) : (s.takeVbr vbr).slots = s.slots := by
  cases vbr with
  | outside => rfl
  | between => rfl
  | reentry => exact slots_supplyInRange { s with insideOuter := true }

theorem startsOnlyOpen_resetEnd (die : DieAtReset) (vbr : VbrAtReset) (holdLow selnLow : Bool) (s : State) :
    s.startsOnlyOpen (s.resetEnd die vbr holdLow selnLow) := by
  unfold State.resetEnd
  split
  · exact of_gainsNoActive (.of_slots ((slots_takeVbr vbr _).trans (slots_takeDie die s)))
  · exact .refl s

theorem tick_isActive (x : SlotState) : x.tick.isActive = x.isActive := by
  cases x <;> rfl

theorem startsOnlyOpen_clocks (s : State) : s.startsOnlyOpen s.clocks :=
  of_gainsNoActive fun i hi => by rwa [slot_clocks, tick_isActive] at hi

/-! ### Commands of COMMAND (R176) -/

theorem startsOnlyOpen_cmdRun (s : State) : s.startsOnlyOpen s.cmdRun := .dispatch (.of_slots rfl)

theorem startsOnlyOpen_cmdStop (s : State) : s.startsOnlyOpen s.cmdStop :=
  .dispatchIfEnded (.resultCount (.withdraw (.of_slots rfl)))

theorem startsOnlyOpen_cmdResume (s : State) : s.startsOnlyOpen s.cmdResume := by
  unfold State.cmdResume
  split
  · exact .dispatch (.resultCount (.returnToDrive (.refl s)))
  · exact of_gainsNoActive (.of_slots rfl)

theorem startsOnlyOpen_cancel (is : List SlotNo) (s : State) : s.startsOnlyOpen (s.cancel is) :=
  .dispatchIfEnded (.resultCount (.withdraw (.refl s)))

theorem startsOnlyOpen_cmdCancelAct (s : State) : s.startsOnlyOpen s.cmdCancelAct := by
  unfold State.cmdCancelAct
  split
  · exact startsOnlyOpen_cancel _ s
  · exact of_gainsNoActive (.of_slots rfl)

theorem startsOnlyOpen_cmdCancelTag (s : State) : s.startsOnlyOpen s.cmdCancelTag := startsOnlyOpen_cancel _ s

theorem startsOnlyOpen_cmdCancelSlot (s : State) : s.startsOnlyOpen s.cmdCancelSlot := by
  unfold State.cmdCancelSlot
  split
  · exact startsOnlyOpen_cancel _ s
  · exact of_gainsNoActive (.of_slots rfl)

theorem startsOnlyOpen_cmdCancelAll (s : State) : s.startsOnlyOpen s.cmdCancelAll := startsOnlyOpen_cancel _ s

theorem startsOnlyOpen_cmdClearLeg (s : State) : s.startsOnlyOpen s.cmdClearLeg := by
  unfold State.cmdClearLeg
  split
  · exact of_gainsNoActive (.of_slots rfl)
  · exact .dispatch (.of_slots rfl)

theorem startsOnlyOpen_cmdClearThermal (s : State) : s.startsOnlyOpen s.cmdClearThermal := by
  unfold State.cmdClearThermal
  split
  · exact .dispatch (.result (.settle (.recap (.of_slots rfl))))
  · exact of_gainsNoActive (.of_slots rfl)

theorem startsOnlyOpen_cmdSetPosition (s : State) : s.startsOnlyOpen s.cmdSetPosition := by
  unfold State.cmdSetPosition
  split
  · exact of_gainsNoActive (.of_slots rfl)
  · split <;> exact of_gainsNoActive (.of_slots rfl)

theorem startsOnlyOpen_cmdMotionReset (s : State) : s.startsOnlyOpen s.cmdMotionReset :=
  startsOnlyOpen_of_free (cmdMotionReset_slot s)

theorem startsOnlyOpen_cmdUnknown (s : State) : s.startsOnlyOpen s.cmdUnknown := of_gainsNoActive (.of_slots rfl)

theorem startsOnlyOpen_command (code : Byte) (s : State) : s.startsOnlyOpen (s.command code) := by
  unfold State.command
  split
  · exact startsOnlyOpen_cmdRun s
  · exact startsOnlyOpen_cmdStop s
  · exact startsOnlyOpen_cmdResume s
  · exact startsOnlyOpen_cmdCancelAct s
  · exact startsOnlyOpen_cmdCancelTag s
  · exact startsOnlyOpen_cmdCancelSlot s
  · exact startsOnlyOpen_cmdCancelAll s
  · exact startsOnlyOpen_cmdClearLeg s
  · exact startsOnlyOpen_cmdClearThermal s
  · exact startsOnlyOpen_cmdSetPosition s
  · exact startsOnlyOpen_cmdMotionReset s
  · exact startsOnlyOpen_cmdUnknown s

/-! ### Bytes of a transfer -/

theorem startsOnlyOpen_writeFlags (a : Addr) (v : Byte) (s : State) : s.startsOnlyOpen (s.writeFlags a v) := by
  unfold State.writeFlags
  split
  · exact of_gainsNoActive (.of_slots rfl)
  · split <;> exact of_gainsNoActive (.of_slots rfl)

theorem startsOnlyOpen_writeMask (a : Addr) (v : Byte) (s : State) : s.startsOnlyOpen (s.writeMask a v) := by
  unfold State.writeMask
  split
  · exact of_gainsNoActive (.of_slots rfl)
  · split <;> exact of_gainsNoActive (.of_slots rfl)

theorem startsOnlyOpen_writePassLimit (v : Byte) (s : State) : s.startsOnlyOpen (s.writePassLimit v) :=
  of_gainsNoActive (.setFlagIf (.of_slots rfl))

theorem startsOnlyOpen_writeWarmCap (v : Byte) (s : State) : s.startsOnlyOpen (s.writeWarmCap v) := by
  unfold State.writeWarmCap
  dsimp only
  split
  · exact of_gainsNoActive (.settle (.recap (.of_slots rfl)))
  · exact of_gainsNoActive (.of_slots rfl)

/-- An accepted SUBMIT makes its slot QUEUED, and the pass that follows may start it (R57). -/
theorem startsOnlyOpen_submitRequest (s : State) : s.startsOnlyOpen s.submitRequest := by
  unfold State.submitRequest
  split
  · next i o _ =>
    have hqueued : s.gainsNoActive (s.setSlot i (.queued o)) := .setSlot i nofun (.refl s)
    exact .dispatch (.then_slots rfl hqueued)
  · exact of_gainsNoActive (.of_slots rfl)

theorem startsOnlyOpen_writeActSel (v : Byte) (s : State) : s.startsOnlyOpen (s.writeActSel v) := by
  unfold State.writeActSel
  split <;> exact of_gainsNoActive (.of_slots rfl)

theorem startsOnlyOpen_applyRequest (s : State) : s.startsOnlyOpen s.applyRequest := by
  unfold State.applyRequest
  dsimp only
  split
  · exact .dispatch (.of_slots rfl)
  · exact of_gainsNoActive (.of_slots rfl)

theorem slots_store (a : Addr) (v : Byte) (s : State) : (s.store a v).slots = s.slots := by
  unfold State.store
  dsimp only
  repeat' split
  all_goals rfl

theorem startsOnlyOpen_takeWrite (a : Addr) (v : Byte) (s : State) : s.startsOnlyOpen (s.takeWrite a v) := by
  unfold State.takeWrite
  split
  · exact startsOnlyOpen_writeFlags _ v s
  · exact startsOnlyOpen_writeFlags _ v s
  · exact startsOnlyOpen_writeMask _ v s
  · exact startsOnlyOpen_writeMask _ v s
  · exact startsOnlyOpen_command v s
  · exact startsOnlyOpen_writePassLimit v s
  · exact startsOnlyOpen_writeWarmCap v s
  · exact startsOnlyOpen_submitRequest s
  · exact startsOnlyOpen_writeActSel v s
  · exact startsOnlyOpen_applyRequest s
  · exact of_gainsNoActive (.of_slots (slots_store a v s))

theorem slots_viewRead (s : State) (a : Addr) (c : Captured) : (s.viewRead a c).slots = s.slots := by
  unfold State.viewRead
  split <;> rfl

theorem slots_fillShadow (s : State) (a : Addr) (c : Captured) : (s.fillShadow a c).slots = s.slots := by
  unfold State.fillShadow
  repeat' split
  all_goals rfl

/-- The removal of a record leaves its slot FREE (R45). -/
theorem State.gainsNoActive.pop {s t : State} (h : s.gainsNoActive t) : s.gainsNoActive t.pop := by
  unfold State.pop
  split
  · exact h
  · split
    · exact h
    · next i rest _ =>
      have hfree : s.gainsNoActive (t.setSlot i .free) := h.setSlot i nofun
      exact hfree.then_slots rfl

theorem startsOnlyOpen_readEffect (a : Addr) (c : Captured) (s : State) : s.startsOnlyOpen (s.readEffect a c) := by
  have hread : s.gainsNoActive ((s.viewRead a c).fillShadow a c) :=
    .of_slots ((slots_fillShadow _ a c).trans (slots_viewRead s a c))
  unfold State.readEffect
  dsimp only
  split
  · exact of_gainsNoActive hread.pop
  · exact of_gainsNoActive hread

theorem startsOnlyOpen_dataByte (v : Byte) (s : State) : s.startsOnlyOpen (s.dataByte v) := by
  unfold State.dataByte
  split
  · next a _ _ => exact (startsOnlyOpen_takeWrite a v s).advance
  · next a c _ => exact (startsOnlyOpen_readEffect a c s).advance
  all_goals exact .refl s

theorem startsOnlyOpen_selnFalling (s : State) : s.startsOnlyOpen s.selnFalling := by
  unfold State.selnFalling
  split <;> exact of_gainsNoActive (.of_slots rfl)

theorem startsOnlyOpen_headerByte (b : Byte) (s : State) : s.startsOnlyOpen (s.headerByte b) := by
  unfold State.headerByte
  split
  · split <;> exact of_gainsNoActive (.of_slots rfl)
  all_goals exact .refl s

theorem startsOnlyOpen_transferEnd (bits : Fin 8) (s : State) : s.startsOnlyOpen (s.transferEnd bits) := by
  unfold State.transferEnd
  split
  · exact of_gainsNoActive (.setFlagIf (.of_slots rfl))
  · exact of_gainsNoActive (.setFlagIf (.of_slots rfl))
  · exact of_gainsNoActive (.of_slots rfl)
  · exact .refl s

/-! ### The forms of a meaning -/

section Forms

variable {s t : State}

theorem startsOnlyOpen_whenLive {f : State → State} (hf : ∀ u : State, u.startsOnlyOpen (f u))
    (h : whenLive f s = .next t) : s.startsOnlyOpen t := by
  obtain rfl := Host.Outcome.next.inj h
  split
  · exact .refl s
  · exact hf s

theorem startsOnlyOpen_writeRow {a : Addr} {f : State → State} (hf : ∀ u : State, u.startsOnlyOpen (f u))
    (h : writeRow a f s = .next t) : s.startsOnlyOpen t := by
  obtain ⟨_, rfl⟩ | ⟨_, rfl⟩ := writeRow_cases h
  · exact (hf s).advance
  · exact .refl t

theorem startsOnlyOpen_readRow {p : Nat → Bool} (h : readRow p s = .next t) : s.startsOnlyOpen t := by
  obtain rfl := Host.Outcome.next.inj h
  split
  · next a c _ => exact (startsOnlyOpen_readEffect a c s).advance
  · exact .refl s

theorem startsOnlyOpen_forOrder {f : SlotNo → State → State}
    (hf : ∀ (i : SlotNo) (u : State), u.startsOnlyOpen (f i u)) (r : OrderRef) (s : State) :
    s.startsOnlyOpen (s.forOrder r f) := by
  unfold State.forOrder
  split
  · exact hf _ s
  · exact .refl s

theorem startsOnlyOpen_forTimer {count : Move → Nat} {f : SlotNo → State → State}
    (hf : ∀ (i : SlotNo) (u : State), u.startsOnlyOpen (f i u)) (r : TimerRef) (s : State) :
    s.startsOnlyOpen (s.forTimer count r f) := by
  unfold State.forTimer
  split
  · exact startsOnlyOpen_forOrder hf r.order s
  · exact .refl s

theorem startsOnlyOpen_forLeg {f : LegNo → State → State}
    (hf : ∀ (k : LegNo) (u : State), u.startsOnlyOpen (f k u)) (r : LegRef) (s : State) :
    s.startsOnlyOpen (s.forLeg r f) := by
  unfold State.forLeg
  split
  · exact hf _ s
  · exact .refl s

theorem startsOnlyOpen_forRestart {f : State → State} (hf : ∀ u : State, u.startsOnlyOpen (f u)) (n : Nat) (s : State) :
    s.startsOnlyOpen (s.forRestart n f) := by
  unfold State.forRestart
  split
  · exact hf s
  · exact .refl s

end Forms

/-! ### The law of R70 -/

theorem exec_startsOnlyOpen {c : Instr} {s t : State} (h : exec c s = .next t) : s.startsOnlyOpen t := by
  cases c with
  | selnFalling => exact startsOnlyOpen_whenLive startsOnlyOpen_selnFalling h
  | headerByte b => exact startsOnlyOpen_whenLive (startsOnlyOpen_headerByte b) h
  | transferEnd bits => exact startsOnlyOpen_whenLive (startsOnlyOpen_transferEnd bits) h
  | registerWrite v => exact startsOnlyOpen_whenLive (startsOnlyOpen_dataByte v) h
  | submit _ => exact startsOnlyOpen_writeRow startsOnlyOpen_submitRequest h
  | apply _ => exact startsOnlyOpen_writeRow startsOnlyOpen_applyRequest h
  | actSelWrite v => exact startsOnlyOpen_writeRow (startsOnlyOpen_writeActSel v) h
  | flagsWrite v =>
    simp only [exec, execFlagsWrite] at h
    split at h <;> exact startsOnlyOpen_writeRow (startsOnlyOpen_writeFlags _ v) h
  | maskWrite v =>
    simp only [exec, execMaskWrite] at h
    split at h <;> exact startsOnlyOpen_writeRow (startsOnlyOpen_writeMask _ v) h
  | passlimWrite v => exact startsOnlyOpen_writeRow (startsOnlyOpen_writePassLimit v) h
  | warmcapWrite v => exact startsOnlyOpen_writeRow (startsOnlyOpen_writeWarmCap v) h
  | completionWindowRead => exact startsOnlyOpen_readRow h
  | completionPop => exact startsOnlyOpen_readRow h
  | positionRead => exact startsOnlyOpen_readRow h
  | run => exact startsOnlyOpen_writeRow startsOnlyOpen_cmdRun h
  | stop => exact startsOnlyOpen_writeRow startsOnlyOpen_cmdStop h
  | resume => exact startsOnlyOpen_writeRow startsOnlyOpen_cmdResume h
  | cancelAct => exact startsOnlyOpen_writeRow startsOnlyOpen_cmdCancelAct h
  | cancelTag => exact startsOnlyOpen_writeRow startsOnlyOpen_cmdCancelTag h
  | cancelSlot => exact startsOnlyOpen_writeRow startsOnlyOpen_cmdCancelSlot h
  | cancelAll => exact startsOnlyOpen_writeRow startsOnlyOpen_cmdCancelAll h
  | clearLeg => exact startsOnlyOpen_writeRow startsOnlyOpen_cmdClearLeg h
  | clearThermal => exact startsOnlyOpen_writeRow startsOnlyOpen_cmdClearThermal h
  | setPosition => exact startsOnlyOpen_writeRow startsOnlyOpen_cmdSetPosition h
  | motionReset => exact startsOnlyOpen_writeRow startsOnlyOpen_cmdMotionReset h
  | unknownCommand _ =>
    simp only [exec, execUnknownCommand] at h
    split at h
    · obtain rfl := Host.Outcome.next.inj h
      exact .refl s
    · exact startsOnlyOpen_writeRow startsOnlyOpen_cmdUnknown h
  | ripplePulse a => exact startsOnlyOpen_whenLive (startsOnlyOpen_ripplePulse a) h
  | rampExpiry r => exact startsOnlyOpen_whenLive (startsOnlyOpen_forTimer startsOnlyOpen_rampExpiry r) h
  | windowExpiry r => exact startsOnlyOpen_whenLive (startsOnlyOpen_forTimer startsOnlyOpen_windowExpiry r) h
  | timeoutExpiry r => exact startsOnlyOpen_whenLive (startsOnlyOpen_forOrder startsOnlyOpen_timeoutExpiry r) h
  | brakeTimerExpiry r => exact startsOnlyOpen_whenLive (startsOnlyOpen_forOrder startsOnlyOpen_brakeTimerExpiry r) h
  | fenceDelayExpiry r => exact startsOnlyOpen_whenLive (startsOnlyOpen_forOrder startsOnlyOpen_fenceDelayExpiry r) h
  | suspendLimitExpiry r =>
    exact startsOnlyOpen_whenLive (startsOnlyOpen_forTimer startsOnlyOpen_suspendLimitExpiry r) h
  | restartDelayExpiry run =>
    exact startsOnlyOpen_whenLive (startsOnlyOpen_forRestart startsOnlyOpen_restartDelayExpiry run) h
  | deadIntervalEnd r => exact startsOnlyOpen_whenLive (startsOnlyOpen_forLeg startsOnlyOpen_deadIntervalEnd r) h
  | overCurrent r => exact startsOnlyOpen_whenLive (startsOnlyOpen_forLeg startsOnlyOpen_overCurrent r) h
  | holdAsserted => exact startsOnlyOpen_whenLive startsOnlyOpen_holdAsserted h
  | holdReleased => exact startsOnlyOpen_whenLive startsOnlyOpen_holdReleased h
  | supplyOut => exact startsOnlyOpen_whenLive startsOnlyOpen_supplyOut h
  | supplyInRange => exact startsOnlyOpen_whenLive startsOnlyOpen_supplyInRange h
  | warnRise => exact startsOnlyOpen_whenLive startsOnlyOpen_warnRise h
  | warnFall => exact startsOnlyOpen_whenLive startsOnlyOpen_warnFall h
  | shutdownRise => exact startsOnlyOpen_whenLive startsOnlyOpen_shutdownRise h
  | shutdownFall => exact startsOnlyOpen_whenLive startsOnlyOpen_shutdownFall h
  | fullReset =>
    obtain rfl := Host.Outcome.next.inj h
    exact startsOnlyOpen_of_free (slot_fullReset s)
  | resetEnd die vbr holdLow selnLow =>
    obtain rfl := Host.Outcome.next.inj h
    exact startsOnlyOpen_resetEnd die vbr holdLow selnLow s
  | outerWindowReentry => exact startsOnlyOpen_whenLive startsOnlyOpen_outerWindowReentry h

theorem idle_startsOnlyOpen {s t : State} (h : s.idle = .next t) : s.startsOnlyOpen t := by
  unfold State.idle at h
  split at h
  · obtain rfl := Host.Outcome.next.inj h
    exact .refl s
  · split at h
    · exact (exec_startsOnlyOpen h).of_slots_before rfl
    · obtain rfl := Host.Outcome.next.inj h
      exact startsOnlyOpen_clocks s

theorem step_startsOnlyOpen {s t : State} (h : step s = .next t) : s.startsOnlyOpen t := by
  unfold step at h
  split at h
  · exact (exec_startsOnlyOpen h).of_slots_before rfl
  · exact idle_startsOnlyOpen h

/-- Settles O53: a pass and a series of passes by the conditions of R70, and the law by the steps, none of which makes a
slot ACTIVE while one of these conditions holds. -/
theorem startsOnlyWhenPassesAreAllowed : Obligations.StartsOnlyWhenPassesAreAllowed := by
  refine ⟨fun s h => ?_, fun s hrun hhold hsupply hthermal => pass_open s ?_, fun s t i h hq ha => ?_⟩
  · have hb : s.blocked = true := (blocked_iff s).2 h
    exact ⟨pass_blocked s hb, dispatch_blocked s hb⟩
  · refine (blocked_eq_false_iff s).2 ⟨hrun, hhold, hsupply, ?_⟩
    obtain hn | hw := hthermal
    · simp [hn]
    · simp [hw]
  · exact (blocked_eq_false_iff t).1 ((step_startsOnlyOpen h).open_of_start hq ha)

end Sys2Proof.Machine
end

section
/-! PROOF. The event flags (chapter 8): a flag read as its bit, the clearing by FLAGS_WRITE (R159), FRAME_ERR at the end of a transfer (R158), and that no step but an over-current sets LEG_FAULT. -/

namespace Sys2Proof.Machine

/-! ### A flag as a bit of the register (R157) -/

theorem word_eq_twoPow (f : Flag) : f.word = BitVec.twoPow 16 f.bit := rfl

theorem word_ne_zero (f : Flag) : f.word ≠ 0 := by
  cases f <;> decide

theorem flag_eq_getLsbD (s : State) (f : Flag) : s.flag f = s.flags.getLsbD f.bit := by
  have hne : BitVec.twoPow 16 f.bit ≠ 0 := word_ne_zero f
  rw [State.flag, word_eq_twoPow, BitVec.and_twoPow]
  cases s.flags.getLsbD f.bit with
  | true => simpa using hne
  | false => simp

theorem bit_eq_one_iff (f : Flag) : f.bit = 1 ↔ f = .legFault := by
  cases f <;> simp [Flag.bit]

theorem bitAt_getLsbD_zero (b : Bool) (n : Nat) : (bitAt b n).getLsbD 0 = (b && decide (n = 0)) := by
  cases b <;> cases n <;> simp [bitAt]

/-- Status bit 0 shows FRAME_ERR (R167). -/
theorem statusByte_getLsbD_zero (s : State) : s.statusByte.getLsbD 0 = s.flag .frameErr := by
  simp only [State.statusByte, BitVec.getLsbD_or, bitAt_getLsbD_zero]
  simp

/-! ### The end of a transfer (R158) -/

theorem setFlagIf_frameErr (s : State) (n : Fin 8) :
    s.setFlagIf (n != 0) .frameErr = { s with flags := if n = 0 then s.flags else s.flags ||| 0x0400 } := by
  rw [setFlagIf_eq]
  have hword : Flag.frameErr.word = 0x0400 := by decide
  by_cases hn : n = 0 <;> simp [hn, hword]

theorem exec_transferEnd_live (n : Fin 8) (s : State) (h : s.inReset = false) :
    exec (.transferEnd n) s = .next (s.transferEnd n) :=
  whenLive_live _ s h

theorem transferEnd_header {s : State} {b : Byte} (n : Fin 8) (hp : s.port = .header b) :
    s.transferEnd n = s.endTransfer.setFlagIf (n != 0) .frameErr := by
  rw [State.transferEnd, hp]

theorem transferEnd_data {s : State} {w : Bool} {a : Addr} {c : Captured} (n : Fin 8) (hp : s.port = .data w a c) :
    s.transferEnd n = s.endTransfer.setFlagIf (n != 0) .frameErr := by
  rw [State.transferEnd, hp]

theorem transferEnd_ignore {s : State} (n : Fin 8) (hp : s.port = .ignore) : s.transferEnd n = s.endTransfer := by
  rw [State.transferEnd, hp]

/-- Settles O9, by the port state in which the transfer ends. -/
theorem transferEndReturnsToIdle : Obligations.TransferEndReturnsToIdle := by
  refine ⟨fun n s hl hp => ?_, fun n s hl hp => ?_, fun s => ?_⟩
  · have ht : s.transferEnd n = s.endTransfer.setFlagIf (n != 0) .frameErr := by
      obtain ⟨b, hb⟩ | ⟨w, a, c, hd⟩ := hp
      · exact transferEnd_header n hb
      · exact transferEnd_data n hd
    rw [exec_transferEnd_live n s hl, ht, setFlagIf_frameErr]
    rfl
  · rw [exec_transferEnd_live n s hl, transferEnd_ignore n hp]
    rfl
  · rw [statusByte_getLsbD_zero, flag_eq_getLsbD]
    rfl

/-! ### What FLAGS_WRITE clears (R159) -/

theorem stickyBits_getLsbD {n : Nat} (hn : n < 16) : stickyBits.getLsbD n = (decide (1 ≤ n) && decide (n ≤ 11)) := by
  revert hn n
  decide

/-- A bit of the register is cleared where it holds a sticky flag and the word written holds 1 (R159). -/
theorem clearFlags_getLsbD (s : State) (w : Half) {n : Nat} (hn : n < 16) :
    (s.clearFlags w).flags.getLsbD n =
      (s.flags.getLsbD n && !(decide (1 ≤ n) && decide (n ≤ 11) && w.getLsbD n)) := by
  simp only [State.clearFlags, BitVec.getLsbD_and, BitVec.getLsbD_not, stickyBits_getLsbD hn, hn, decide_true,
    Bool.true_and]
  rw [Bool.and_comm (w.getLsbD n)]

theorem clearFlags_low_getLsbD (s : State) (v : Byte) {n : Nat} (hn : n < 16) :
    (s.clearFlags (v.setWidth 16)).flags.getLsbD n =
      (s.flags.getLsbD n && !(decide (1 ≤ n) && decide (n ≤ 7) && v.getLsbD n)) := by
  have hv : 8 ≤ n → v.getLsbD n = false := v.getLsbD_of_ge n
  rw [clearFlags_getLsbD s _ hn, BitVec.getLsbD_setWidth]
  grind

theorem clearFlags_high_getLsbD (s : State) (v : Byte) {n : Nat} (hn : n < 16) :
    (s.clearFlags (v.setWidth 16 <<< 8)).flags.getLsbD n =
      (s.flags.getLsbD n && !(decide (8 ≤ n) && decide (n ≤ 11) && v.getLsbD (n - 8))) := by
  rw [clearFlags_getLsbD s _ hn, BitVec.getLsbD_shiftLeft, BitVec.getLsbD_setWidth]
  grind

theorem exec_flagsWrite_low (v : Byte) (s : State) (h : s.Writing 0x02) :
    exec (.flagsWrite v) s = .next ((s.clearFlags (v.setWidth 16)).written 0x02) := by
  have hn : ¬ s.Writing 0x03 := fun k => absurd (writing_unique h k) (by decide)
  rw [← writesAt_iff] at hn
  rw [← advance_write s (s.clearFlags (v.setWidth 16)) 0x02 h rfl]
  exact (if_neg hn).trans (writeRow_at 0x02 _ s h)

theorem exec_flagsWrite_high (v : Byte) (s : State) (h : s.Writing 0x03) :
    exec (.flagsWrite v) s = .next ((s.clearFlags (v.setWidth 16 <<< 8)).written 0x03) := by
  rw [← advance_write s (s.clearFlags (v.setWidth 16 <<< 8)) 0x03 h rfl]
  exact (if_pos ((writesAt_iff s 0x03).2 h)).trans (writeRow_at 0x03 _ s h)

/-! ### Operations that leave every flag -/

@[simp] theorem flags_onMove (s : State) (i : SlotNo) (f : Order → Move → Move) : (s.onMove i f).flags = s.flags := rfl
@[simp] theorem flags_onMoves (s : State) (f : Order → Move → Move) : (s.onMoves f).flags = s.flags := rfl
@[simp] theorem flags_settle (s : State) : s.settle.flags = s.flags := rfl
@[simp] theorem flags_recap (s : State) : s.recap.flags = s.flags := rfl
@[simp] theorem flags_result (s : State) (r : CmdResult) : (s.result r).flags = s.flags := rfl
@[simp] theorem flags_resultCount (s : State) (n : Nat) : (s.resultCount n).flags = s.flags := rfl
@[simp] theorem flags_endTransfer (s : State) : s.endTransfer.flags = s.flags := rfl
@[simp] theorem flags_takeGrant (s : State) (i : SlotNo) (o : Order) : (s.takeGrant i o).flags = s.flags := rfl
@[simp] theorem flags_link (s : State) (i : SlotNo) (a : ActNo) : (s.link i a).flags = s.flags := rfl
@[simp] theorem flags_expireReentered (s u : State) (p : Phase) : (s.expireReentered u p).flags = s.flags := rfl

theorem flags_foldl {α : Type} {f : State → α → State} (hf : ∀ (u : State) (x : α), (f u x).flags = u.flags)
    (l : List α) (s : State) : (l.foldl f s).flags = s.flags :=
  List.foldlRecOn l f (motive := fun u => u.flags = s.flags) rfl fun u hu x _ => (hf u x).trans hu

@[simp] theorem flags_endOrders (s : State) (e : Ending) (is : List SlotNo) : (s.endOrders e is).flags = s.flags :=
  flags_foldl (fun u i => flags_endOrder u e i) is s

@[simp] theorem flags_endBraked (s : State) (i : SlotNo) : (s.endBraked i).flags = s.flags := by
  unfold State.endBraked
  repeat' split
  all_goals simp [flags_endOrder]

@[simp] theorem flags_brakeMoves (s : State) (e : Ending) (is : List SlotNo) : (s.brakeMoves e is).flags = s.flags :=
  flags_foldl (f := fun u i => u.onMove i fun _ m => if m.phase.driving then u.brake e m else m) (fun _ _ => rfl) is s

@[simp] theorem flags_withdraw (s : State) (e : Ending) (is : List SlotNo) : (s.withdraw e is).flags = s.flags := by
  simp [State.withdraw]

@[simp] theorem flags_returnToDrive (s : State) (p : Phase) (f : Order → Move → Move) :
    (s.returnToDrive p f).flags = s.flags := by
  simp [State.returnToDrive]

@[simp] theorem flags_addClaim (s : State) (f : LegField) (c : Claim) : (s.addClaim f c).flags = s.flags := by
  unfold State.addClaim
  split <;> rfl

@[simp] theorem flags_withClaims (s : State) (i : SlotNo) (o : Order) : (s.withClaims i o).flags = s.flags := by
  simp [State.withClaims]

@[simp] theorem flags_recover (s : State) : s.recover.flags = s.flags := by
  unfold State.recover
  split <;> rfl

@[simp] theorem flags_supplyInRange (s : State) : s.supplyInRange.flags = s.flags := by
  unfold State.supplyInRange
  split
  · exact flags_recover _
  · rfl

@[simp] theorem flags_advance (s : State) : s.advance.flags = s.flags := by
  unfold State.advance
  split <;> rfl

@[simp] theorem flags_store (a : Addr) (v : Byte) (s : State) : (s.store a v).flags = s.flags := by
  unfold State.store
  dsimp only
  repeat' split
  all_goals rfl

@[simp] theorem flags_viewRead (s : State) (a : Addr) (c : Captured) : (s.viewRead a c).flags = s.flags := by
  unfold State.viewRead
  split <;> rfl

@[simp] theorem flags_fillShadow (s : State) (a : Addr) (c : Captured) : (s.fillShadow a c).flags = s.flags := by
  unfold State.fillShadow
  repeat' split
  all_goals rfl

@[simp] theorem flags_pop (s : State) : s.pop.flags = s.flags := by
  unfold State.pop
  repeat' split
  all_goals rfl

@[simp] theorem flags_readEffect (s : State) (a : Addr) (c : Captured) : (s.readEffect a c).flags = s.flags := by
  unfold State.readEffect
  dsimp only
  split <;> simp

/-! ### LEG_FAULT where other flags are set

`flags[1]` is LEG_FAULT, spelled as `simp` leaves a bit of the register. -/

@[simp] theorem legFault_setFlag (s : State) {f : Flag} (h : f ≠ .legFault) : (s.setFlag f).flags[1] = s.flags[1] := by
  have hbit : 1 ≠ f.bit := fun hb => h ((bit_eq_one_iff f).1 hb.symm)
  simp [State.setFlag, word_eq_twoPow, hbit]

@[simp] theorem legFault_setFlagIf (s : State) (b : Bool) {f : Flag} (h : f ≠ .legFault) :
    (s.setFlagIf b f).flags[1] = s.flags[1] := by
  cases b with
  | false => rfl
  | true => exact legFault_setFlag s h

theorem legFault_raiseOlder (s : State) (i : SlotNo) : (s.raiseOlder i).flags[1] = s.flags[1] := by
  simp [State.raiseOlder]

theorem WalkStep.legFault {s t : State} (h : WalkStep s t) : t.flags[1] = s.flags[1] := by
  cases h with
  | endsAtStart i o e => rw [flags_endOrder]
  | starts i o => simp [State.startMove, legFault_raiseOlder]
  | fenceEnds i o => rw [flags_endOrder]
  | fenceWaits i o => rfl

@[simp] theorem legFault_dispatch (s : State) : s.dispatch.flags[1] = s.flags[1] :=
  dispatch_induct (fun u => u.flags[1] = s.flags[1]) s rfl fun _ _ hu _ hstep => hstep.legFault.trans hu

@[simp] theorem legFault_dispatchIfEnded (s u : State) : (s.dispatchIfEnded u).flags[1] = s.flags[1] :=
  dispatchIfEnded_induct (fun u => u.flags[1] = s.flags[1]) s u rfl fun _ _ hu _ hstep => hstep.legFault.trans hu

/-! ### LEG_FAULT in each event -/

theorem legFault_movePulse (a : ActNo) (i : SlotNo) (m : Move) (s : State) :
    (s.movePulse a i m).flags[1] = s.flags[1] := by
  unfold State.movePulse
  dsimp only
  repeat' split
  all_goals simp

theorem legFault_ripplePulse (a : ActNo) (s : State) : (s.ripplePulse a).flags[1] = s.flags[1] := by
  unfold State.ripplePulse
  repeat' split
  all_goals simp [legFault_movePulse]

theorem legFault_rampExpiry (i : SlotNo) (s : State) : (s.rampExpiry i).flags[1] = s.flags[1] := by
  simp [State.rampExpiry]

theorem legFault_timeoutExpiry (i : SlotNo) (s : State) : (s.timeoutExpiry i).flags[1] = s.flags[1] := by
  simp [State.timeoutExpiry]

theorem legFault_windowExpiry (i : SlotNo) (s : State) : (s.windowExpiry i).flags[1] = s.flags[1] := by
  unfold State.windowExpiry
  repeat' split
  all_goals simp

theorem legFault_brakeTimerExpiry (i : SlotNo) (s : State) : (s.brakeTimerExpiry i).flags[1] = s.flags[1] := by
  simp [State.brakeTimerExpiry]

theorem legFault_fenceDelayExpiry (i : SlotNo) (s : State) : (s.fenceDelayExpiry i).flags[1] = s.flags[1] := by
  unfold State.fenceDelayExpiry
  split <;> simp [flags_endOrder]

theorem legFault_suspendLimitExpiry (i : SlotNo) (s : State) : (s.suspendLimitExpiry i).flags[1] = s.flags[1] := by
  unfold State.suspendLimitExpiry
  repeat' split
  all_goals simp [flags_endOrder]

theorem legFault_restartDelayExpiry (s : State) : s.restartDelayExpiry.flags[1] = s.flags[1] := by
  unfold State.restartDelayExpiry
  dsimp only
  repeat' split
  all_goals simp [State.resumeAll]

theorem legFault_holdAsserted (s : State) : s.holdAsserted.flags[1] = s.flags[1] := by
  unfold State.holdAsserted
  split <;> simp

theorem legFault_holdReleased (s : State) : s.holdReleased.flags[1] = s.flags[1] := by
  unfold State.holdReleased
  split <;> simp

theorem legFault_loseSupply (s : State) : s.loseSupply.flags[1] = s.flags[1] := by
  simp [State.loseSupply, flags_foldl flags_endBraked]

theorem legFault_supplyOut (s : State) : s.supplyOut.flags[1] = s.flags[1] := by
  unfold State.supplyOut
  dsimp only
  repeat' split
  all_goals simp [legFault_loseSupply]

theorem legFault_warnRise (s : State) : s.warnRise.flags[1] = s.flags[1] := by
  unfold State.warnRise
  dsimp only
  repeat' split
  all_goals simp

theorem legFault_warnFall (s : State) : s.warnFall.flags[1] = s.flags[1] := by
  unfold State.warnFall
  dsimp only
  repeat' split
  all_goals simp

theorem legFault_shutdownRise (s : State) : s.shutdownRise.flags[1] = s.flags[1] := by
  unfold State.shutdownRise
  split <;> simp

theorem legFault_shutdownFall (s : State) : s.shutdownFall.flags[1] = s.flags[1] := by
  unfold State.shutdownFall
  dsimp only
  repeat' split
  all_goals simp

/-! ### LEG_FAULT in the commands of COMMAND (R176) -/

theorem legFault_cmdRun (s : State) : s.cmdRun.flags[1] = s.flags[1] := by
  simp [State.cmdRun]

theorem legFault_cmdStop (s : State) : s.cmdStop.flags[1] = s.flags[1] := by
  simp [State.cmdStop]

theorem legFault_cmdResume (s : State) : s.cmdResume.flags[1] = s.flags[1] := by
  unfold State.cmdResume
  split <;> simp [State.resumeAll]

theorem legFault_cancel (is : List SlotNo) (s : State) : (s.cancel is).flags[1] = s.flags[1] := by
  simp [State.cancel]

theorem legFault_cmdCancelAct (s : State) : s.cmdCancelAct.flags[1] = s.flags[1] := by
  unfold State.cmdCancelAct
  split
  · exact legFault_cancel _ s
  · rfl

theorem legFault_cmdCancelTag (s : State) : s.cmdCancelTag.flags[1] = s.flags[1] := legFault_cancel _ s

theorem legFault_cmdCancelSlot (s : State) : s.cmdCancelSlot.flags[1] = s.flags[1] := by
  unfold State.cmdCancelSlot
  split
  · exact legFault_cancel _ s
  · rfl

theorem legFault_cmdCancelAll (s : State) : s.cmdCancelAll.flags[1] = s.flags[1] := legFault_cancel _ s

theorem legFault_cmdClearLeg (s : State) : s.cmdClearLeg.flags[1] = s.flags[1] := by
  unfold State.cmdClearLeg
  split <;> simp

theorem legFault_cmdClearThermal (s : State) : s.cmdClearThermal.flags[1] = s.flags[1] := by
  unfold State.cmdClearThermal
  split <;> simp

theorem legFault_cmdSetPosition (s : State) : s.cmdSetPosition.flags[1] = s.flags[1] := by
  unfold State.cmdSetPosition
  repeat' split
  all_goals simp

theorem legFault_cmdMotionReset (s : State) : s.cmdMotionReset.flags[1] = s.flags[1] := by
  simp [State.cmdMotionReset]

theorem legFault_command (code : Byte) (s : State) : (s.command code).flags[1] = s.flags[1] := by
  unfold State.command
  split
  · exact legFault_cmdRun s
  · exact legFault_cmdStop s
  · exact legFault_cmdResume s
  · exact legFault_cmdCancelAct s
  · exact legFault_cmdCancelTag s
  · exact legFault_cmdCancelSlot s
  · exact legFault_cmdCancelAll s
  · exact legFault_cmdClearLeg s
  · exact legFault_cmdClearThermal s
  · exact legFault_cmdSetPosition s
  · exact legFault_cmdMotionReset s
  · rfl

/-! ### LEG_FAULT in the bytes of a transfer and in the resets -/

theorem legFault_writeFlags (a : Addr) (v : Byte) (s : State) : (s.writeFlags a v).flags[1] ≤ s.flags[1] := by
  have hclear (w : Half) : (s.clearFlags w).flags[1] ≤ s.flags[1] := by
    simpa [State.clearFlags] using Bool.and_le_left _ _
  unfold State.writeFlags
  split
  · exact hclear _
  · split
    · exact hclear _
    · exact le_rfl

theorem legFault_writeMask (a : Addr) (v : Byte) (s : State) : (s.writeMask a v).flags[1] = s.flags[1] := by
  unfold State.writeMask
  repeat' split
  all_goals rfl

theorem legFault_writePassLimit (v : Byte) (s : State) : (s.writePassLimit v).flags[1] = s.flags[1] := by
  simp [State.writePassLimit]

theorem legFault_writeWarmCap (v : Byte) (s : State) : (s.writeWarmCap v).flags[1] = s.flags[1] := by
  unfold State.writeWarmCap
  dsimp only
  split <;> simp

theorem legFault_submitRequest (s : State) : s.submitRequest.flags[1] = s.flags[1] := by
  unfold State.submitRequest
  split
  · exact legFault_dispatch _
  · rfl

theorem legFault_writeActSel (v : Byte) (s : State) : (s.writeActSel v).flags[1] = s.flags[1] := by
  unfold State.writeActSel
  split <;> rfl

theorem legFault_applyRequest (s : State) : s.applyRequest.flags[1] = s.flags[1] := by
  unfold State.applyRequest
  dsimp only
  split <;> simp

theorem legFault_takeWrite (a : Addr) (v : Byte) (s : State) : (s.takeWrite a v).flags[1] ≤ s.flags[1] := by
  unfold State.takeWrite
  split
  · exact legFault_writeFlags _ v s
  · exact legFault_writeFlags _ v s
  · exact (legFault_writeMask _ v s).le
  · exact (legFault_writeMask _ v s).le
  · exact (legFault_command v s).le
  · exact (legFault_writePassLimit v s).le
  · exact (legFault_writeWarmCap v s).le
  · exact (legFault_submitRequest s).le
  · exact (legFault_writeActSel v s).le
  · exact (legFault_applyRequest s).le
  · simp

theorem legFault_dataByte (v : Byte) (s : State) : (s.dataByte v).flags[1] ≤ s.flags[1] := by
  unfold State.dataByte
  split
  · simpa using legFault_takeWrite _ v s
  all_goals simp

theorem legFault_selnFalling (s : State) : s.selnFalling.flags[1] = s.flags[1] := by
  unfold State.selnFalling
  split <;> rfl

theorem legFault_headerByte (b : Byte) (s : State) : (s.headerByte b).flags[1] = s.flags[1] := by
  unfold State.headerByte
  repeat' split
  all_goals rfl

theorem legFault_transferEnd (n : Fin 8) (s : State) : (s.transferEnd n).flags[1] = s.flags[1] := by
  unfold State.transferEnd
  split <;> simp

theorem legFault_resetEnd (die : DieAtReset) (vbr : VbrAtReset) (holdLow selnLow : Bool) (s : State) :
    (s.resetEnd die vbr holdLow selnLow).flags[1] = s.flags[1] := by
  have hdie : (s.takeDie die).flags = s.flags := by cases die <;> rfl
  have hvbr (u : State) : (u.takeVbr vbr).flags = u.flags := by cases vbr <;> simp [State.takeVbr]
  unfold State.resetEnd
  split
  · simp [hvbr, hdie]
  · rfl

/-! ### LEG_FAULT in every step but an over-current -/

section Forms

variable {s t : State}

theorem legFault_whenLive {f : State → State} (hf : (f s).flags[1] ≤ s.flags[1]) (h : whenLive f s = .next t) :
    t.flags[1] ≤ s.flags[1] := by
  obtain rfl := Host.Outcome.next.inj h
  split
  · exact le_rfl
  · exact hf

theorem legFault_writeRow {a : Addr} {f : State → State} (hf : (f s).flags[1] ≤ s.flags[1])
    (h : writeRow a f s = .next t) : t.flags[1] ≤ s.flags[1] := by
  obtain ⟨_, rfl⟩ | ⟨_, rfl⟩ := writeRow_cases h
  · simpa using hf
  · exact le_rfl

theorem legFault_readRow {p : Nat → Bool} (h : readRow p s = .next t) : t.flags[1] ≤ s.flags[1] := by
  obtain rfl := Host.Outcome.next.inj h
  split <;> simp

theorem legFault_forOrder {f : SlotNo → State → State} (hf : ∀ i, (f i s).flags[1] = s.flags[1]) (r : OrderRef) :
    (s.forOrder r f).flags[1] = s.flags[1] := by
  unfold State.forOrder
  split
  · exact hf _
  · rfl

theorem legFault_forTimer {count : Move → Nat} {f : SlotNo → State → State}
    (hf : ∀ i, (f i s).flags[1] = s.flags[1]) (r : TimerRef) : (s.forTimer count r f).flags[1] = s.flags[1] := by
  unfold State.forTimer
  split
  · exact legFault_forOrder hf r.order
  · rfl

theorem legFault_forRestart {f : State → State} (hf : (f s).flags[1] = s.flags[1]) (n : Nat) :
    (s.forRestart n f).flags[1] = s.flags[1] := by
  unfold State.forRestart
  split
  · exact hf
  · rfl

theorem legFault_forLeg {f : LegNo → State → State} (hf : ∀ k, (f k s).flags[1] = s.flags[1]) (r : LegRef) :
    (s.forLeg r f).flags[1] = s.flags[1] := by
  unfold State.forLeg
  split
  · exact hf _
  · rfl

end Forms

/-- A step may clear LEG_FAULT, by FLAGS_WRITE or a full reset; to set it takes an over-current. -/
theorem exec_legFault_le {c : Instr} {s t : State} (h : exec c s = .next t) (hc : ∀ r, c ≠ .overCurrent r) :
    t.flags[1] ≤ s.flags[1] := by
  cases c with
  | selnFalling => exact legFault_whenLive (legFault_selnFalling s).le h
  | headerByte b => exact legFault_whenLive (legFault_headerByte b s).le h
  | transferEnd bits => exact legFault_whenLive (legFault_transferEnd bits s).le h
  | registerWrite v => exact legFault_whenLive (legFault_dataByte v s) h
  | submit _ => exact legFault_writeRow (legFault_submitRequest s).le h
  | apply _ => exact legFault_writeRow (legFault_applyRequest s).le h
  | actSelWrite v => exact legFault_writeRow (legFault_writeActSel v s).le h
  | flagsWrite v =>
    simp only [exec, execFlagsWrite] at h
    split at h <;> exact legFault_writeRow (legFault_writeFlags _ v s) h
  | maskWrite v =>
    simp only [exec, execMaskWrite] at h
    split at h <;> exact legFault_writeRow (legFault_writeMask _ v s).le h
  | passlimWrite v => exact legFault_writeRow (legFault_writePassLimit v s).le h
  | warmcapWrite v => exact legFault_writeRow (legFault_writeWarmCap v s).le h
  | completionWindowRead => exact legFault_readRow h
  | completionPop => exact legFault_readRow h
  | positionRead => exact legFault_readRow h
  | run => exact legFault_writeRow (legFault_cmdRun s).le h
  | stop => exact legFault_writeRow (legFault_cmdStop s).le h
  | resume => exact legFault_writeRow (legFault_cmdResume s).le h
  | cancelAct => exact legFault_writeRow (legFault_cmdCancelAct s).le h
  | cancelTag => exact legFault_writeRow (legFault_cmdCancelTag s).le h
  | cancelSlot => exact legFault_writeRow (legFault_cmdCancelSlot s).le h
  | cancelAll => exact legFault_writeRow (legFault_cmdCancelAll s).le h
  | clearLeg => exact legFault_writeRow (legFault_cmdClearLeg s).le h
  | clearThermal => exact legFault_writeRow (legFault_cmdClearThermal s).le h
  | setPosition => exact legFault_writeRow (legFault_cmdSetPosition s).le h
  | motionReset => exact legFault_writeRow (legFault_cmdMotionReset s).le h
  | unknownCommand _ =>
    simp only [exec, execUnknownCommand] at h
    split at h
    · exact (Host.Outcome.next.inj h ▸ le_rfl)
    · exact legFault_writeRow (f := State.cmdUnknown) le_rfl h
  | ripplePulse a => exact legFault_whenLive (legFault_ripplePulse a s).le h
  | rampExpiry r => exact legFault_whenLive (legFault_forTimer (legFault_rampExpiry · s) r).le h
  | windowExpiry r => exact legFault_whenLive (legFault_forTimer (legFault_windowExpiry · s) r).le h
  | timeoutExpiry r => exact legFault_whenLive (legFault_forOrder (legFault_timeoutExpiry · s) r).le h
  | brakeTimerExpiry r => exact legFault_whenLive (legFault_forOrder (legFault_brakeTimerExpiry · s) r).le h
  | fenceDelayExpiry r => exact legFault_whenLive (legFault_forOrder (legFault_fenceDelayExpiry · s) r).le h
  | suspendLimitExpiry r => exact legFault_whenLive (legFault_forTimer (legFault_suspendLimitExpiry · s) r).le h
  | restartDelayExpiry n => exact legFault_whenLive (legFault_forRestart (legFault_restartDelayExpiry s) n).le h
  | deadIntervalEnd r => exact legFault_whenLive (legFault_forLeg (f := State.deadIntervalEnd) (fun _ => rfl) r).le h
  | overCurrent r => exact absurd rfl (hc r)
  | holdAsserted => exact legFault_whenLive (legFault_holdAsserted s).le h
  | holdReleased => exact legFault_whenLive (legFault_holdReleased s).le h
  | supplyOut => exact legFault_whenLive (legFault_supplyOut s).le h
  | supplyInRange => exact legFault_whenLive (f := State.supplyInRange) (by simp) h
  | warnRise => exact legFault_whenLive (legFault_warnRise s).le h
  | warnFall => exact legFault_whenLive (legFault_warnFall s).le h
  | shutdownRise => exact legFault_whenLive (legFault_shutdownRise s).le h
  | shutdownFall => exact legFault_whenLive (legFault_shutdownFall s).le h
  | fullReset =>
    obtain rfl := Host.Outcome.next.inj h
    simp [State.fullReset, State.reset]
  | resetEnd die vbr holdLow selnLow =>
    obtain rfl := Host.Outcome.next.inj h
    exact (legFault_resetEnd die vbr holdLow selnLow s).le
  | outerWindowReentry => exact legFault_whenLive (f := State.outerWindowReentry) le_rfl h

/-- LEG_FAULT once clear returns with an over-current alone (R159). -/
theorem overCurrent_of_legFault_set {c : Instr} {s t : State} (h : exec c s = .next t)
    (hclear : s.flags.getLsbD 1 = false) (hset : t.flags.getLsbD 1 = true) : ∃ r, c = .overCurrent r := by
  by_contra hc
  have hle : t.flags.getLsbD 1 ≤ s.flags.getLsbD 1 := exec_legFault_le h (not_exists.1 hc)
  rw [hclear, hset] at hle
  exact absurd hle (by decide)

/-- Settles O18: the clearing by the bits of the byte written, and LEG_FAULT by the steps, none of which but an
over-current sets it. -/
theorem flagsWriteClearsFlags : Obligations.FlagsWriteClearsFlags :=
  ⟨fun v s hw => ⟨_, exec_flagsWrite_low v s hw, rfl, rfl, fun _ => clearFlags_low_getLsbD s v⟩,
    fun v s hw => ⟨_, exec_flagsWrite_high v s hw, rfl, rfl, fun _ => clearFlags_high_getLsbD s v⟩,
    fun _ _ _ => overCurrent_of_legFault_set⟩

end Sys2Proof.Machine
end

section
/-! PROOF. The status byte (R167): its bits as conditions of the part, its capture when SELN falls, and that the port keeps it until the header ends. -/

namespace Sys2Proof.Machine

/-! ### The bits of the status byte -/

/-- Bit `i` of a byte that holds `b` at bit `n` alone. -/
theorem bitAt_getLsbD (b : Bool) (n : Nat) {i : Nat} (hi : i < 8) : (bitAt b n).getLsbD i = (b && decide (n = i)) := by
  have hone : (1#8 <<< n).getLsbD i = decide (n = i) := by
    rw [← BitVec.twoPow_eq, BitVec.getLsbD_twoPow]
    simp only [decide_eq_decide, decide_eq_true_eq, Bool.and_eq_decide]
    omega
  cases b with
  | false => simp [bitAt]
  | true => simpa [bitAt] using hone

/-- The status byte, bit by bit in the order of R167. -/
theorem statusByte_getLsbD (s : State) {i : Nat} (hi : i < 8) :
    s.statusByte.getLsbD i =
      (s.attn && decide (7 = i) || ((List.finRange 6).any fun k => (s.leg k).state == .off) && decide (6 = i) ||
        (s.thermal != .normal) && decide (5 = i) || s.holdOn && decide (4 = i) ||
        (s.supply != .inRange) && decide (3 = i) || (s.countSlots SlotState.isFree == 0) && decide (2 = i) ||
        !s.completion.isEmpty && decide (1 = i) || s.flag .frameErr && decide (0 = i)) := by
  simp only [State.statusByte, BitVec.getLsbD_or, bitAt_getLsbD _ _ hi]

theorem isFree_iff (x : SlotState) : x.isFree = true ↔ x = .free := by
  cases x <;> simp [SlotState.isFree]

theorem countSlots_isFree_eq_zero (s : State) : s.countSlots SlotState.isFree = 0 ↔ ∀ i, s.slot i ≠ .free := by
  simp [State.countSlots, List.countP_eq_zero, isFree_iff]

theorem statusByte_attn (s : State) : s.statusByte.getLsbD 7 = s.attn := by
  rw [statusByte_getLsbD s (by decide)]
  simp

theorem statusByte_legOff (s : State) : s.statusByte.getLsbD 6 = true ↔ ∃ k, (s.leg k).state = .off := by
  rw [statusByte_getLsbD s (by decide)]
  simp

theorem statusByte_thermal (s : State) : s.statusByte.getLsbD 5 = true ↔ s.thermal ≠ .normal := by
  rw [statusByte_getLsbD s (by decide)]
  simp

theorem statusByte_hold (s : State) : s.statusByte.getLsbD 4 = s.holdOn := by
  rw [statusByte_getLsbD s (by decide)]
  simp

theorem statusByte_supply (s : State) : s.statusByte.getLsbD 3 = true ↔ s.supply ≠ .inRange := by
  rw [statusByte_getLsbD s (by decide)]
  simp

theorem statusByte_noSlotFree (s : State) : s.statusByte.getLsbD 2 = true ↔ ∀ i, s.slot i ≠ .free := by
  rw [statusByte_getLsbD s (by decide)]
  simp [countSlots_isFree_eq_zero]

theorem statusByte_completion (s : State) : s.statusByte.getLsbD 1 = true ↔ s.completion ≠ [] := by
  rw [statusByte_getLsbD s (by decide)]
  simp

theorem statusByte_frameErr (s : State) : s.statusByte.getLsbD 0 = s.flags.getLsbD 10 := by
  rw [statusByte_getLsbD_zero, flag_eq_getLsbD]
  rfl

/-! ### The capture (R165, R167) -/

theorem exec_selnFalling_idle {s : State} (hl : s.inReset = false) (hp : s.port = .idle) :
    exec .selnFalling s = .next { s with port := .header s.statusByte } := by
  have hs : s.selnFalling = { s with port := .header s.statusByte } := by
    rw [State.selnFalling, hp]
  exact (whenLive_live State.selnFalling s hl).trans (congrArg Host.Outcome.next hs)

/-! ### The port while a header is in shift -/

section Header

variable {s t : State} {b : Byte}

theorem selnFalling_header (hp : s.port = .header b) : s.selnFalling = s := by
  rw [State.selnFalling, hp]

theorem dataByte_header (v : Byte) (hp : s.port = .header b) : s.dataByte v = s := by
  rw [State.dataByte, hp]

/-- No write row arises in HEADER (R168). -/
theorem writeRow_header {a : Addr} {f : State → State} (hp : s.port = .header b) (h : writeRow a f s = .next t) :
    t.port = .header b := by
  have hn : ¬ s.Writing a := by
    rintro ⟨_, out, ho⟩
    exact nomatch hp.symm.trans ho
  rw [writeRow_none a f s hn] at h
  exact Host.Outcome.next.inj h ▸ hp

/-- No read row arises in HEADER (R169). -/
theorem readRow_header {p : Nat → Bool} (hp : s.port = .header b) (h : readRow p s = .next t) :
    t.port = .header b := by
  have hn (a : Addr) (c : Captured) : ¬ s.Reading a c := fun hr => nomatch hp.symm.trans hr.2
  rw [readRow_none p s fun a c hr => absurd hr (hn a c)] at h
  exact Host.Outcome.next.inj h ▸ hp

theorem whenLive_header {f : State → State} (hf : (f s).port = s.port) (hp : s.port = .header b)
    (h : whenLive f s = .next t) : t.port = .header b := by
  obtain rfl := Host.Outcome.next.inj h
  split
  · exact hp
  · exact hf.trans hp

end Header

theorem port_forRestart {f : State → State} {s : State} (hf : (f s).port = s.port) (n : Nat) :
    (s.forRestart n f).port = s.port := by
  unfold State.forRestart
  split
  · exact hf
  · rfl

theorem resetEnd_live {s : State} (die : DieAtReset) (vbr : VbrAtReset) (holdLow selnLow : Bool)
    (hl : s.inReset = false) : s.resetEnd die vbr holdLow selnLow = s := by
  rw [State.resetEnd, if_neg (by simp [hl])]

/-- The captured status byte stays in the port until HEADER_BYTE, TRANSFER_END or a reset takes the port out of
HEADER (R167). -/
theorem exec_port_header {c : Instr} {s t : State} {b : Byte} (hp : s.port = .header b) (h : exec c s = .next t) :
    t.port = .header b ∨ (∃ v, c = .headerByte v) ∨ (∃ n, c = .transferEnd n) ∨ c = .fullReset ∨
      (s.inReset = true ∧ ∃ d v h l, c = .resetEnd d v h l) := by
  cases c with
  | headerByte v => exact .inr (.inl ⟨v, rfl⟩)
  | transferEnd n => exact .inr (.inr (.inl ⟨n, rfl⟩))
  | fullReset => exact .inr (.inr (.inr (.inl rfl)))
  | resetEnd die vbr holdLow selnLow =>
    cases hl : s.inReset with
    | true => exact .inr (.inr (.inr (.inr ⟨rfl, die, vbr, holdLow, selnLow, rfl⟩)))
    | false =>
      obtain rfl := Host.Outcome.next.inj h
      exact .inl ((congrArg State.port (resetEnd_live die vbr holdLow selnLow hl)).trans hp)
  | selnFalling => exact .inl (whenLive_header (congrArg State.port (selnFalling_header hp)) hp h)
  | registerWrite v => exact .inl (whenLive_header (congrArg State.port (dataByte_header v hp)) hp h)
  | submit _ | apply _ | actSelWrite _ | passlimWrite _ | warmcapWrite _ | run | stop | resume | cancelAct | cancelTag
  | cancelSlot | cancelAll | clearLeg | clearThermal | setPosition | motionReset =>
    exact .inl (writeRow_header hp h)
  | flagsWrite v =>
    simp only [exec, execFlagsWrite] at h
    split at h <;> exact .inl (writeRow_header hp h)
  | maskWrite v =>
    simp only [exec, execMaskWrite] at h
    split at h <;> exact .inl (writeRow_header hp h)
  | unknownCommand _ =>
    simp only [exec, execUnknownCommand] at h
    split at h
    · exact .inl (Host.Outcome.next.inj h ▸ hp)
    · exact .inl (writeRow_header hp h)
  | completionWindowRead | completionPop | positionRead => exact .inl (readRow_header hp h)
  | ripplePulse a => exact .inl (whenLive_header (port_ripplePulse a s) hp h)
  | rampExpiry r => exact .inl (whenLive_header (sameOutside_forTimer s _ r _ (frame_rampExpiry · s)).port_eq hp h)
  | windowExpiry r => exact .inl (whenLive_header (sameOutside_forTimer s _ r _ (frame_windowExpiry · s)).port_eq hp h)
  | timeoutExpiry r =>
    exact .inl (whenLive_header (sameOutside_forOrder s r _ (frame_timeoutExpiry · s)).port_eq hp h)
  | brakeTimerExpiry r =>
    exact .inl (whenLive_header (sameOutside_forOrder s r _ (frame_brakeTimerExpiry · s)).port_eq hp h)
  | fenceDelayExpiry r =>
    exact .inl (whenLive_header (sameOutside_forOrder s r _ (frame_fenceDelayExpiry · s)).port_eq hp h)
  | suspendLimitExpiry r =>
    exact .inl (whenLive_header (sameOutside_forTimer s _ r _ (frame_suspendLimitExpiry · s)).port_eq hp h)
  | restartDelayExpiry n => exact .inl (whenLive_header (port_forRestart (port_restartDelayExpiry s) n) hp h)
  | deadIntervalEnd r =>
    exact .inl (whenLive_header (sameOutside_forLeg s r _ (frame_deadIntervalEnd · s)).port_eq hp h)
  | overCurrent r => exact .inl (whenLive_header (sameOutside_forLeg s r _ (frame_overCurrent · s)).port_eq hp h)
  | holdAsserted => exact .inl (whenLive_header (port_holdAsserted s) hp h)
  | holdReleased => exact .inl (whenLive_header (port_holdReleased s) hp h)
  | supplyOut => exact .inl (whenLive_header (port_supplyOut s) hp h)
  | supplyInRange => exact .inl (whenLive_header (port_supplyInRange s) hp h)
  | outerWindowReentry => exact .inl (whenLive_header (f := State.outerWindowReentry) rfl hp h)
  | warnRise => exact .inl (whenLive_header (port_warnRise s) hp h)
  | warnFall => exact .inl (whenLive_header (port_warnFall s) hp h)
  | shutdownRise => exact .inl (whenLive_header (port_shutdownRise s) hp h)
  | shutdownFall => exact .inl (whenLive_header (port_shutdownFall s) hp h)

/-- Settles O7: the capture, each bit by its condition, and the port through every command in HEADER. -/
theorem selnFallingCapturesStatusByte : Obligations.SelnFallingCapturesStatusByte :=
  ⟨fun _ hl hp => ⟨exec_selnFalling_idle hl hp, rfl⟩,
    fun s => ⟨statusByte_attn s, statusByte_legOff s, statusByte_thermal s, statusByte_hold s, statusByte_supply s,
      statusByte_noSlotFree s, statusByte_completion s, statusByte_frameErr s⟩,
    fun _ _ _ _ => exec_port_header⟩

end Sys2Proof.Machine
end

section
/-! PROOF. Everything a step can do, said once: a course of changes of a few kinds, each put after the last, with the legs standing at their demand at its end. The laws of the part are kept by each kind of change. -/

namespace Sys2Proof.Machine

/-! ### What a change leaves of a move, a slot, a leg and an entry -/

/-- A move under way goes on as another: its direction and its grant stay (R49), and it stays lawful (R86, R87). -/
def Move.goesOn (m n : Move) : Prop := n.dir = m.dir ∧ n.extHeld = m.extHeld ∧ (m.lawful = true → n.lawful = true)

theorem Move.goesOn.refl (m : Move) : m.goesOn m := ⟨rfl, rfl, id⟩

/-- A slot keeps its order, whose PASS count and whose move, by `R`, may change. -/
inductive SlotState.GoesOn (R : Move → Move → Prop) : SlotState → SlotState → Prop
  | free : GoesOn R .free .free
  | queued (o : Order) (p : BitVec 4) : GoesOn R (.queued o) (.queued { o with pass := p })
  | active (o : Order) (m n : Move) (h : R m n) : GoesOn R (.active o m) (.active o n)
  | waiting (o : Order) (k l : Ticks) : GoesOn R (.waiting o k) (.waiting o l)
  | done (r : Record) : GoesOn R (.done r) (.done r)

theorem SlotState.GoesOn.of_eq {R : Move → Move → Prop} (hR : ∀ m, R m m) {x y : SlotState} (h : y = x) :
    x.GoesOn R y := by
  subst h
  cases y with
  | free => exact .free
  | queued o => exact .queued o o.pass
  | active o m => exact .active o m m (hR m)
  | waiting o k => exact .waiting o k k
  | done r => exact .done r

theorem SlotState.GoesOn.mono {R Q : Move → Move → Prop} (h : ∀ m n, R m n → Q m n) {x y : SlotState}
    (hxy : x.GoesOn R y) : x.GoesOn Q y := by
  cases hxy with
  | free => exact .free
  | queued o p => exact .queued o p
  | active o m n hm => exact .active o m n (h m n hm)
  | waiting o k l => exact .waiting o k l
  | done r => exact .done r

theorem SlotState.GoesOn.mapMove {R : Move → Move → Prop} (hR : ∀ m, R m m) {f : Order → Move → Move} {x : SlotState}
    (hf : ∀ o m, x = .active o m → R m (f o m)) : x.GoesOn R (x.mapMove f) := by
  cases x with
  | active o m => exact .active o m _ (hf o m rfl)
  | _ => exact .of_eq hR rfl

/-- What a slot shows of its order while the order stays. -/
structure SlotState.SameOrder (x y : SlotState) : Prop where
  isFree : y.isFree = x.isFree
  isQueued : y.isQueued = x.isQueued
  isActive : y.isActive = x.isActive
  isDone : y.isDone = x.isDone
  kindFits : y.kindFits = x.kindFits
  runsFor : ∀ a, y.runsFor a = x.runsFor a
  ordersFor : ∀ a, y.ordersFor a = x.ordersFor a
  number : y.number = x.number
  holdsGrant : y.holdsGrant = x.holdsGrant
  lawful : x.moveHas Move.lawful = true → y.moveHas Move.lawful = true

theorem SlotState.GoesOn.sameOrder {x y : SlotState} (h : x.GoesOn Move.goesOn y) : x.SameOrder y := by
  cases h with
  | active o m n hm =>
    obtain ⟨-, hext, hlaw⟩ := hm
    exact ⟨rfl, rfl, rfl, rfl, rfl, fun _ => rfl, fun _ => rfl, rfl, hext, hlaw⟩
  | _ => exact ⟨rfl, rfl, rfl, rfl, rfl, fun _ => rfl, fun _ => rfl, rfl, rfl, fun _ => rfl⟩

/-- The number of a leg's run does not fall, and rises where the leg has stopped conducting (R32, R149). -/
def Leg.runsOn (l l' : Leg) : Prop :=
  l.run ≤ l'.run ∧ (l.state.conducting = true → l'.state.conducting = false → l.run < l'.run)

theorem Leg.runsOn.refl (l : Leg) : l.runsOn l := ⟨le_rfl, fun h k => by rw [h] at k; cases k⟩

theorem Leg.runsOn.of_eq {l l' : Leg} (hs : l'.state = l.state) (hr : l'.run = l.run) : l.runsOn l' :=
  ⟨hr.ge, fun h k => by rw [hs, h] at k; cases k⟩

theorem Leg.runsOn.trans {l m n : Leg} (h : l.runsOn m) (k : m.runsOn n) : l.runsOn n := by
  refine ⟨h.1.trans k.1, fun hl hn => ?_⟩
  cases hm : m.state.conducting with
  | true => exact h.1.trans_lt (k.2 hm hn)
  | false => exact (h.2 hl hm).trans_le k.1

theorem Leg.runsOn_enter (l : Leg) (x : LegState) : l.runsOn (l.enter x) :=
  ⟨run_le_enter l x, run_lt_enter l x⟩

/-- A leg keeps its claims, and it is OFF only if it was. -/
structure Leg.GoesOn (l l' : Leg) : Prop where
  claims : l'.claims = l.claims
  off : l'.state = .off → l.state = .off
  run : l.runsOn l'

theorem Leg.GoesOn.of_eq {l l' : Leg} (h : l' = l) : l.GoesOn l' := by
  subst h
  exact ⟨rfl, id, .refl l'⟩

theorem react_eq_off {dead : Ticks} {d : Demand} {x : LegState} (h : x.react dead d = .off) : x = .off := by
  cases x with
  | off => rfl
  | _ => cases d <;> cases h

theorem legGoesOn_settle (s : State) (k : LegNo) : (s.leg k).GoesOn (s.settle.leg k) := by
  rw [leg_settle]
  exact ⟨rfl, react_eq_off, (s.leg k).runsOn_enter _⟩

/-! ### Parts of the state -/

/-- The orders and what stands with them. -/
def State.pool (s : State) :=
  (s.slots, s.legs, s.acts, s.acceptance, s.completion, s.grant, s.serial)

/-- What the monitors hold, and whether a full reset is under way. -/
def State.monitors (s : State) := (s.inReset, s.holdOn, s.supply, s.thermal, s.warnSet, s.shutdownSet)

/-- What the law of stored values speaks of. -/
def State.stored (s : State) := (s.settings, s.speeds, s.flags, s.mask)

theorem storeLaw_congr {s t : State} (h : t.stored = s.stored) (hs : s.StoreLaw) : t.StoreLaw := by
  simp only [State.stored, Prod.mk.injEq] at h
  obtain ⟨h1, h2, h3, h4⟩ := h
  simp only [State.StoreLaw, h1, h2, h3, h4]
  exact hs

theorem thermalLaw_congr {s t : State} (h : t.monitors = s.monitors) (hs : s.ThermalLaw) : t.ThermalLaw := by
  simp only [State.monitors, Prod.mk.injEq] at h
  obtain ⟨-, -, -, h1, h2, h3⟩ := h
  simp only [State.ThermalLaw, h1, h2, h3]
  exact hs

theorem allows_congr {s t : State} (h : t.monitors = s.monitors) : t.allows = s.allows := by
  simp only [State.monitors, Prod.mk.injEq] at h
  obtain ⟨-, h1, h2, h3, -, -⟩ := h
  funext m
  simp only [State.allows, h1, h2, h3]

theorem monitors_of_sameOutside {s t : State} (h : s.sameOutside t) : t.monitors = s.monitors := by
  simp only [State.monitors, h.inReset_eq, h.holdOn_eq, h.supply_eq, h.thermal_eq, h.warnSet_eq, h.shutdownSet_eq]

theorem stored_of_sameOutside {s t : State} (h : s.sameOutside t) (hf : t.flags = s.flags) : t.stored = s.stored := by
  simp only [State.stored, h.settings_eq, h.speeds_eq, h.mask_eq, hf]

theorem inReset_of_monitors {s t : State} (h : t.monitors = s.monitors) : t.inReset = s.inReset := congrArg Prod.fst h

/-- A sticky flag set keeps the bits that hold nothing at 0 (R157). -/
theorem storeLaw_setFlag {s : State} (f : Flag) (hs : s.StoreLaw) : (s.setFlag f).StoreLaw := by
  obtain ⟨h1, h2, h3, h4⟩ := hs
  refine ⟨h1, h2, ?_, h4⟩
  have hf : f.word &&& ~~~stickyBits = 0 := by cases f <;> rfl
  have hd : (s.flags ||| f.word) &&& ~~~stickyBits = (s.flags &&& ~~~stickyBits) ||| (f.word &&& ~~~stickyBits) := by
    ext i; simp [Bool.and_or_distrib_right]
  rw [State.setFlag, hd, h3, hf]
  rfl

theorem storeLaw_setFlagIf {s : State} (b : Bool) (f : Flag) (hs : s.StoreLaw) : (s.setFlagIf b f).StoreLaw := by
  cases b with
  | false => exact hs
  | true => exact storeLaw_setFlag f hs

/-! ### The kinds of change -/

/-- The orders stay where they are: the lists, the grant, every slot's order, every leg's claims, and the
configuration and ACTIVE_SLOT of every entry. -/
structure State.Adjust (s t : State) : Prop where
  acceptance : t.acceptance = s.acceptance
  completion : t.completion = s.completion
  grant : t.grant = s.grant
  serial : t.serial = s.serial
  slots : ∀ i, (s.slot i).GoesOn Move.goesOn (t.slot i)
  legs : ∀ k, (s.leg k).GoesOn (t.leg k)
  acts : ∀ a, (t.act a).config = (s.act a).config ∧ (t.act a).activeSlot = (s.act a).activeSlot
  disabled : s.WiringLaw → s.DisabledLaw → t.DisabledLaw
  store : s.StoreLaw → t.StoreLaw
  thermal : s.ThermalLaw → t.ThermalLaw
  monitors : s.PoolLaw → s.MoveLaw → s.MonitorLaw → t.MonitorLaw

/-- The changes of which a step is made. In an over-current the leg latches OFF when its owners have ended. -/
inductive Change : State → State → Prop
  | adjusts {s t : State} (h : s.Adjust t) : Change s t
  | ends (s : State) (e : Ending) (i : SlotNo) : Change s (s.endOrder e i)
  | walks {s t : State} (hb : s.blocked = false) (h : WalkStep s t) : Change s t
  | pops (s : State) : Change s s.pop
  | configures (s : State) (h : s.checkApply = .ok) :
      Change s (s.setAct s.actSel ((s.act s.actSel).applyPage s.page))
  | latches (s : State) (k : LegNo)
      (h : ∀ i ∈ s.acceptance, (s.leg k).claimedBy i = true → (s.slot i).move = none) : Change s (s.latchOff k)
  | motionReset (s : State) : Change s s.cmdMotionReset
  | fullReset (s : State) : Change s s.fullReset

/-- The change takes no leg from its demand (R26). -/
def State.quiet (s t : State) : Prop := s.PoolLaw → s.OffLaw → s.DemandLaw → t.DemandLaw

/-- A course of changes from `s`; the flag says that every leg has taken its demand since the last change that may
have altered one (R26). An order is accepted into a slot that was FREE before the step (R57). -/
inductive Course (s : State) : Bool → State → Prop
  | refl : Course s true s
  | change {b : Bool} {t u : State} (h : Course s b t) (hc : Change t u) : Course s false u
  | quiet {b : Bool} {t u : State} (h : Course s b t) (hc : Change t u) (hq : t.quiet u) : Course s b u
  | settle {b : Bool} {t : State} (h : Course s b t) : Course s true t.settle
  | accept {b : Bool} {t : State} (i : SlotNo) (o : Order) (h : Course s b t) (hs : s.slot i = .free)
      (ht : t.slot i = .free) (hk : o.kind ≠ .fence → (t.act o.actuator).config.enabled = true)
      (hn : o.serial = t.serial) (hl : t.inReset = false) : Course s b (t.accept i o)

/-! ### What an adjustment is made of -/

/-- Only fields outside the pool change. -/
theorem State.Adjust.of_pool {s t : State} (hp : t.pool = s.pool) (hs : s.StoreLaw → t.StoreLaw)
    (ht : s.ThermalLaw → t.ThermalLaw) (hm : s.PoolLaw → s.MoveLaw → s.MonitorLaw → t.MonitorLaw) : s.Adjust t := by
  simp only [State.pool, Prod.mk.injEq] at hp
  obtain ⟨hslots, hlegs, hacts, ha, hc, hg, hn⟩ := hp
  have hact : ∀ a, t.act a = s.act a := fun a => by simp only [State.act, hacts]
  refine ⟨ha, hc, hg, hn, fun i => ?_, fun k => ?_, fun a => ?_, fun _ hd a => ?_, hs, ht, hm⟩
  · exact .of_eq Move.goesOn.refl (by simp only [State.slot, hslots])
  · exact .of_eq (by simp only [State.leg, hlegs])
  · rw [hact]; exact ⟨rfl, rfl⟩
  · rw [hact]; exact hd a

theorem monitorLaw_of_slots {s t : State} (hm : t.monitors = s.monitors)
    (hslot : ∀ i, t.slot i = s.slot i) (h : s.MonitorLaw) : t.MonitorLaw := by
  refine ⟨fun i => ?_, fun hr i => ?_⟩
  · rw [hslot, allows_congr hm]; exact h.1 i
  · rw [hslot]; exact h.2 (inReset_of_monitors hm ▸ hr) i

theorem slot_of_pool {s t : State} (h : t.pool = s.pool) (i : SlotNo) : t.slot i = s.slot i :=
  congrArg (fun v : Vector SlotState 16 => v[i]) (congrArg Prod.fst h)

theorem leg_of_pool {s t : State} (h : t.pool = s.pool) (k : LegNo) : t.leg k = s.leg k :=
  congrArg (fun v : Vector Leg 6 => v[k]) (congrArg (fun p => p.2.1) h)

/-- Only fields change that no law speaks of, but for stored values that stay in range. -/
theorem State.Adjust.of_registers {s t : State} (hp : t.pool = s.pool) (hm : t.monitors = s.monitors)
    (hs : s.StoreLaw → t.StoreLaw) : s.Adjust t :=
  .of_pool hp hs (thermalLaw_congr hm) fun _ _ => monitorLaw_of_slots hm (slot_of_pool hp)

/-- A move may go on as another under the monitors of the state. -/
def State.admits (s : State) (m n : Move) : Prop :=
  m.goesOn n ∧ (m.lawful = true → s.allows m = true → s.allows n = true)

theorem State.admits.refl (s : State) (m : Move) : s.admits m m := ⟨.refl m, fun _ => id⟩

theorem moveHas_goesOn {s : State} {x y : SlotState} (h : x.GoesOn s.admits y) (hl : x.moveHas Move.lawful = true)
    (ha : x.moveHas s.allows = true) : y.moveHas s.allows = true := by
  cases h with
  | active o m n hm => exact hm.2 hl ha
  | _ => rfl

/-- Slots, legs and entries change, each within its bounds. -/
theorem State.Adjust.of_parts {s t : State} (ho : s.sameOutside t) (ha : t.acceptance = s.acceptance)
    (hc : t.completion = s.completion) (hg : t.grant = s.grant) (hs : s.StoreLaw → t.StoreLaw)
    (hslots : ∀ i, (s.slot i).GoesOn s.admits (t.slot i)) (hlegs : ∀ k, (s.leg k).GoesOn (t.leg k))
    (hacts : ∀ a, (t.act a).config = (s.act a).config ∧ (t.act a).activeSlot = (s.act a).activeSlot)
    (hd : s.WiringLaw → s.DisabledLaw → t.DisabledLaw) : s.Adjust t := by
  have hm := monitors_of_sameOutside ho
  refine ⟨ha, hc, hg, ho.serial_eq, fun i => (hslots i).mono fun _ _ h => h.1, hlegs, hacts, hd, hs,
    thermalLaw_congr hm, fun _ hl hmon => ⟨fun i => ?_, fun hr i => ?_⟩⟩
  · rw [allows_congr hm]
    exact moveHas_goesOn (hslots i) (hl i) (hmon.1 i)
  · have hi := hslots i
    rw [hmon.2 (ho.inReset_eq ▸ hr) i] at hi
    generalize t.slot i = y at hi ⊢
    cases hi
    rfl

theorem State.Adjust.of_slots {s t : State} (ht : t = { s with slots := t.slots })
    (h : ∀ i, (s.slot i).GoesOn s.admits (t.slot i)) : s.Adjust t := by
  have ho : s.sameOutside t := by rw [ht]; rfl
  have hact : ∀ a, t.act a = s.act a := fun a => by rw [ht]; rfl
  have hleg : ∀ k, t.leg k = s.leg k := fun k => by rw [ht]; rfl
  refine .of_parts ho (by rw [ht]) (by rw [ht]) (by rw [ht]) (storeLaw_congr (by rw [ht]; rfl)) h
    (fun k => .of_eq (hleg k)) (fun a => by rw [hact]; exact ⟨rfl, rfl⟩) fun _ hd a => by rw [hact]; exact hd a

theorem State.Adjust.of_legs {s t : State} (ht : t = { s with legs := t.legs })
    (h : ∀ k, (s.leg k).GoesOn (t.leg k)) : s.Adjust t := by
  have ho : s.sameOutside t := by rw [ht]; rfl
  have hact : ∀ a, t.act a = s.act a := fun a => by rw [ht]; rfl
  have hslot : ∀ i, t.slot i = s.slot i := fun i => by rw [ht]; rfl
  refine .of_parts ho (by rw [ht]) (by rw [ht]) (by rw [ht]) (storeLaw_congr (by rw [ht]; rfl))
    (fun i => .of_eq (.refl s) (hslot i)) h (fun a => by rw [hact]; exact ⟨rfl, rfl⟩)
    fun _ hd a => by rw [hact]; exact hd a

/-- One entry changes, but for its configuration and ACTIVE_SLOT. -/
theorem State.Adjust.of_act {s : State} {a : ActNo} {e : Actuator} (hc : e.config = (s.act a).config)
    (hs : e.activeSlot = (s.act a).activeSlot)
    (hv : s.WiringLaw → e.valid = true → (s.act a).valid = true ∨ (s.act a).config.enabled = true) :
    s.Adjust (s.setAct a e) := by
  refine .of_parts (sameOutside_setAct s a e) rfl rfl rfl (storeLaw_congr rfl)
    (fun i => .of_eq (.refl s) (by simp)) (fun k => .of_eq (by simp)) (fun b => ?_) fun hw hd b hb => ?_
  · rw [act_setAct]
    split
    · next h => rw [← h]; exact ⟨hc, hs⟩
    · exact ⟨rfl, rfl⟩
  · rw [act_setAct] at hb ⊢
    split at hb
    · next h =>
      subst h
      rw [if_pos rfl]
      by_contra hv'
      obtain h1 | h1 := hv hw (by simpa using hv')
      · rw [hc] at hb
        rw [hd a hb] at h1
        cases h1
      · rw [hc, h1] at hb
        cases hb
    · next h => rw [if_neg h]; exact hd b hb

theorem State.Adjust.settle (s : State) : s.Adjust s.settle :=
  .of_legs (by simp only [State.settle, State.mapLegs]) (legGoesOn_settle s)

/-! ### What each kind of change keeps -/

/-- A law kept by every change and by an acceptance holds after a course of them. -/
theorem Course.keeps {s t : State} {b : Bool} {P : State → Prop} (h : Course s b t)
    (hc : ∀ u v, P u → Change u v → P v)
    (ha : ∀ (u : State) (i : SlotNo) (o : Order), P u → s.slot i = .free → u.slot i = .free →
      (o.kind ≠ .fence → (u.act o.actuator).config.enabled = true) → o.serial = u.serial → u.inReset = false →
      P (u.accept i o))
    (hs : P s) : P t := by
  induction h with
  | refl => exact hs
  | change _ hcu ih => exact hc _ _ ih hcu
  | quiet _ hcu _ ih => exact hc _ _ ih hcu
  | settle _ ih => exact hc _ _ ih (.adjusts (.settle _))
  | accept i o _ h0 ht hk hn hl ih => exact ha _ i o ih h0 ht hk hn hl

/-- An ending of a slot that holds no order changes nothing (R44). -/
theorem endOrder_of_not_holdsOrder {s : State} {i : SlotNo} (e : Ending) (h : (s.slot i).holdsOrder = false) :
    s.endOrder e i = s := by
  unfold State.endOrder
  split
  case h_4 | h_5 => rfl
  all_goals
    next hx =>
    rw [hx] at h
    cases h

/-- The head of the completion order removed, its slot FREE (R45). -/
def State.removeHead (i : SlotNo) (rest : List SlotNo) (s : State) : State :=
  { s.setSlot i .free with completion := rest }

/-- The removal at 39h takes nothing, or the head of the completion order (R153). -/
theorem pop_cases (s : State) :
    s.pop = s ∨ ∃ i rest, s.completion = i :: rest ∧ s.pop = s.removeHead i rest := by
  unfold State.pop
  split
  · exact .inl rfl
  · split
    · exact .inl rfl
    · next i rest h => exact .inr ⟨i, rest, h, rfl⟩

theorem leg_latchOff (s : State) (k j : LegNo) :
    (s.latchOff k).leg j = if k = j then { (s.leg k).enter .off with claims := [] } else s.leg j :=
  leg_setLeg s k j _

theorem slot_accept (s : State) (i j : SlotNo) (o : Order) :
    (s.accept i o).slot j = if i = j then .queued o else s.slot j :=
  slot_setSlot s i j (.queued o)

theorem leg_cmdMotionReset (s : State) (k : LegNo) : s.cmdMotionReset.leg k = (s.leg k).cutOff := by
  simp only [State.cmdMotionReset, State.resultCount, setFlagIf_eq]
  exact leg_mapLegs (s.mapActs fun _ e => e.cutOff) (fun _ l => l.cutOff) k

theorem act_cmdMotionReset (s : State) (a : ActNo) : s.cmdMotionReset.act a = (s.act a).cutOff := by
  simp only [State.cmdMotionReset, State.resultCount, setFlagIf_eq]
  exact act_mapActs s (fun _ e => e.cutOff) a

theorem lists_cmdMotionReset (s : State) :
    s.cmdMotionReset.acceptance = [] ∧ s.cmdMotionReset.completion = [] ∧ s.cmdMotionReset.grant = none := by
  simp only [State.cmdMotionReset, State.resultCount, setFlagIf_eq, and_self]

theorem leg_fullReset (s : State) (k : LegNo) :
    s.fullReset.leg k = { (s.leg k).enter .float with claims := [] } := by
  simp [State.leg, State.fullReset]

/-! ### What a start does, slot by slot, leg by leg and entry by entry (R79) -/

theorem leg_addClaim (s : State) (f : LegField) (c : Claim) (k : LegNo) :
    (s.addClaim f c).leg k = if legOf f = some k then (s.leg k).addClaim c else s.leg k := by
  unfold State.addClaim
  split
  · next j hj =>
    rw [leg_setLeg, hj]
    by_cases h : j = k
    · simp [h]
    · simp [h]
  · next hj => simp [hj]

/-- The state of a start before the PASS counts rise. -/
def State.startClaims (s : State) (i : SlotNo) (o : Order) : State :=
  (((s.withClaims i o).takeGrant i o).setSlot i (.active o (s.enterDrive o (s.newMove o)))).link i o.actuator

theorem startMove_eq (s : State) (i : SlotNo) (o : Order) :
    s.startMove i o = ((s.startClaims i o).raiseOlder i).settle := rfl

theorem sameOutside_startClaims (s : State) (i : SlotNo) (o : Order) : s.sameOutside (s.startClaims i o) :=
  sameOutside_trans (sameOutside_trans (sameOutside_trans (sameOutside_withClaims s i o) (sameOutside_takeGrant _ i o))
    (sameOutside_setSlot _ i _)) (sameOutside_link _ i _)

theorem withClaims_eq (s : State) (i : SlotNo) (o : Order) :
    s.withClaims i o = { s with legs := (s.withClaims i o).legs } := by
  have h : ∀ (t : State) (f : LegField) (c : Claim), t.addClaim f c = { t with legs := (t.addClaim f c).legs } := by
    intro t f c
    unfold State.addClaim
    split <;> rfl
  rw [State.withClaims, h (s.addClaim _ _), h s]

theorem slot_startClaims (s : State) (i j : SlotNo) (o : Order) :
    (s.startClaims i o).slot j = if i = j then .active o (s.enterDrive o (s.newMove o)) else s.slot j := by
  have h : (s.startClaims i o).slot j =
      (((s.withClaims i o).takeGrant i o).setSlot i (.active o (s.enterDrive o (s.newMove o)))).slot j := rfl
  rw [h, slot_setSlot, withClaims_eq]
  rfl

theorem leg_startClaims (s : State) (i : SlotNo) (o : Order) (k : LegNo) :
    (s.startClaims i o).leg k = (s.withClaims i o).leg k := rfl

theorem act_startClaims (s : State) (i : SlotNo) (o : Order) (a : ActNo) :
    (s.startClaims i o).act a = if o.actuator = a then { s.act a with activeSlot := some i } else s.act a := by
  have h : ∀ b, (((s.withClaims i o).takeGrant i o).setSlot i (.active o (s.enterDrive o (s.newMove o)))).act b =
      s.act b := by
    intro b
    rw [withClaims_eq]
    rfl
  rw [State.startClaims, State.link, act_setAct, h, h]
  split
  · next ha => rw [ha]
  · rfl

theorem lists_startClaims (s : State) (i : SlotNo) (o : Order) :
    (s.startClaims i o).acceptance = s.acceptance ∧ (s.startClaims i o).completion = s.completion ∧
      (s.startClaims i o).grant = (if o.ext then some i else s.grant) ∧ (s.startClaims i o).flags = s.flags := by
  simp only [State.startClaims, State.link, setAct_acceptance, setAct_completion, setAct_grant, setAct_flags,
    State.takeGrant, setSlot_acceptance, setSlot_completion, setSlot_grant, setSlot_flags]
  rw [withClaims_eq]
  exact ⟨rfl, rfl, rfl, rfl⟩

theorem raise_goesOn {R : Move → Move → Prop} (hR : ∀ m, R m m) (x : SlotState) : x.GoesOn R x.raise := by
  cases x with
  | queued o =>
    unfold SlotState.raise
    dsimp only
    split
    · exact .of_eq hR rfl
    · exact .queued o _
  | _ => exact .of_eq hR rfl

@[simp] theorem slot_setFlagIf (s : State) (b : Bool) (f : Flag) (i : SlotNo) :
    (s.setFlagIf b f).slot i = s.slot i := by
  cases b <;> rfl

@[simp] theorem leg_setFlagIf (s : State) (b : Bool) (f : Flag) (k : LegNo) : (s.setFlagIf b f).leg k = s.leg k := by
  cases b <;> rfl

@[simp] theorem act_setFlagIf (s : State) (b : Bool) (f : Flag) (a : ActNo) : (s.setFlagIf b f).act a = s.act a := by
  cases b <;> rfl

theorem lists_setFlagIf (s : State) (b : Bool) (f : Flag) :
    (s.setFlagIf b f).acceptance = s.acceptance ∧ (s.setFlagIf b f).completion = s.completion ∧
      (s.setFlagIf b f).grant = s.grant := by
  cases b <;> exact ⟨rfl, rfl, rfl⟩

theorem slot_raiseOlder (s : State) (i j : SlotNo) :
    (s.raiseOlder i).slot j = if (s.older i).contains j then (s.slot j).raise else s.slot j := by
  rw [State.raiseOlder, slot_setFlagIf, slot_mapSlots]

theorem leg_raiseOlder (s : State) (i : SlotNo) (k : LegNo) : (s.raiseOlder i).leg k = s.leg k := by
  rw [State.raiseOlder, leg_setFlagIf, mapSlots_legAt]

theorem act_raiseOlder (s : State) (i : SlotNo) (a : ActNo) : (s.raiseOlder i).act a = s.act a := by
  rw [State.raiseOlder, act_setFlagIf, mapSlots_actAt]

theorem raiseOlder_adjust (s : State) (i : SlotNo) : s.Adjust (s.raiseOlder i) := by
  obtain ⟨ha, hc, hg⟩ := lists_setFlagIf (s.mapSlots fun j x => if (s.older i).contains j then x.raise else x)
    (newlyPressing s (s.mapSlots fun j x => if (s.older i).contains j then x.raise else x)) .pressing
  have hstored (f : SlotNo → SlotState → SlotState) : (s.mapSlots f).stored = s.stored := by
    simp only [State.stored, mapSlots_settings, mapSlots_speeds, mapSlots_flags, mapSlots_mask]
  refine .of_parts (sameOutside_raiseOlder s i) ha hc hg
    (fun h => storeLaw_setFlagIf _ _ (storeLaw_congr (s := s) (hstored _) h))
    (fun j => ?_) (fun k => .of_eq (leg_raiseOlder s i k)) (fun a => by rw [act_raiseOlder]; exact ⟨rfl, rfl⟩)
    fun _ hd a => by rw [act_raiseOlder]; exact hd a
  rw [slot_raiseOlder]
  split
  · exact raise_goesOn (.refl s) _
  · exact .of_eq (.refl s) rfl

/-- What a start makes of the state follows from its claims alone: the PASS counts and the legs' reaction adjust. -/
theorem startMove_adjusts (s : State) (i : SlotNo) (o : Order) :
    ∃ u, (s.startClaims i o).Adjust u ∧ u.Adjust (s.startMove i o) :=
  ⟨_, raiseOlder_adjust _ i, .settle _⟩

end Sys2Proof.Machine
end

section
/-! PROOF. The laws of the lists, the kinds, ACTIVE_SLOT, the wiring, the claims and the legs through each kind of change (R8, R9, R22, R23, R34, R40 to R43, R49). -/

namespace Sys2Proof.Machine

/-! ### The slots and entries of a start -/

theorem older_not_self (s : State) (i : SlotNo) : i ∉ s.older i := by
  intro h
  have := List.mem_takeWhile_imp h
  simp at this

/-- The slot that a walk step takes is QUEUED, holds no move and no order for any entry's move yet. -/
theorem holdsOrder_queued {s : State} {i : SlotNo} {o : Order} (h : s.slot i = .queued o) :
    (s.slot i).holdsOrder = true := by
  rw [h]; rfl

/-! ### The lists (R40, R42, R43) -/

theorem poolLaw_adjust {s t : State} (h : s.Adjust t) (hs : s.PoolLaw) : t.PoolLaw := by
  obtain ⟨h1, h2, h3, h4⟩ := hs
  refine ⟨h.acceptance ▸ h1, h.completion ▸ h2, fun i => ?_, fun i => ?_⟩
  · rw [h.acceptance, h3, (h.slots i).sameOrder.isQueued, (h.slots i).sameOrder.isActive]
  · rw [h.completion, h4, (h.slots i).sameOrder.isDone]

/-- A slot with an order is not DONE, and its order once ended makes it DONE. -/
theorem isDone_ended {x : SlotState} (s : State) (e : Ending) (h : x.holdsOrder = true) :
    x.isDone = false ∧ (x.ended s e).isDone = true ∧ (x.ended s e).holdsOrder = false := by
  cases x with
  | queued _ | active _ _ | waiting _ _ => exact ⟨rfl, rfl, rfl⟩
  | free | done _ => cases h

theorem poolLaw_endOrder {s : State} (e : Ending) (i : SlotNo) (hs : s.PoolLaw) : (s.endOrder e i).PoolLaw := by
  cases ho : (s.slot i).holdsOrder with
  | false => rwa [endOrder_of_not_holdsOrder e ho]
  | true =>
    obtain ⟨h1, h2, h3, h4⟩ := hs
    obtain ⟨hd, hd', ho'⟩ := isDone_ended s e ho
    refine ⟨?_, ?_, fun j => ?_, fun j => ?_⟩
    · rw [acceptance_endOrder s e i ho]
      exact h1.filter _
    · rw [completion_endOrder s e i ho]
      have hi : i ∉ s.completion := by rw [h4, hd]; exact Bool.false_ne_true
      exact List.nodup_append.2 ⟨h2, List.nodup_singleton i, fun a ha b hb hab => hi (by simp_all)⟩
    · rw [acceptance_endOrder s e i ho, slot_endOrder, List.mem_filter, h3]
      by_cases hij : i = j
      · subst hij
        simpa [SlotState.holdsOrder] using ho'
      · simp [hij, Ne.symm hij]
    · rw [completion_endOrder s e i ho, slot_endOrder, List.mem_append, h4, List.mem_singleton]
      by_cases hij : i = j
      · subst hij
        simp [hd']
      · simp [hij, Ne.symm hij]

theorem poolLaw_setSlot {s t : State} {i : SlotNo} (ha : t.acceptance = s.acceptance) (hc : t.completion = s.completion)
    (hne : ∀ j, j ≠ i → t.slot j = s.slot j) (hi : (t.slot i).holdsOrder = (s.slot i).holdsOrder)
    (hd : (t.slot i).isDone = (s.slot i).isDone) (hs : s.PoolLaw) : t.PoolLaw := by
  obtain ⟨h1, h2, h3, h4⟩ := hs
  refine ⟨ha ▸ h1, hc ▸ h2, fun j => ?_, fun j => ?_⟩
  · rw [ha, h3]
    by_cases hj : j = i
    · subst hj; exact iff_of_eq (congrArg (· = true) hi.symm)
    · rw [hne j hj]
  · rw [hc, h4]
    by_cases hj : j = i
    · subst hj; rw [hd]
    · rw [hne j hj]

theorem poolLaw_startClaims {s : State} {i : SlotNo} {o : Order} (hq : s.slot i = .queued o) (hs : s.PoolLaw) :
    (s.startClaims i o).PoolLaw := by
  obtain ⟨ha, hc, -, -⟩ := lists_startClaims s i o
  refine poolLaw_setSlot (i := i) ha hc (fun j hj => ?_) ?_ ?_ hs
  · rw [slot_startClaims, if_neg hj.symm]
  · rw [slot_startClaims, if_pos rfl, hq]; rfl
  · rw [slot_startClaims, if_pos rfl, hq]; rfl

theorem poolLaw_walk {s t : State} (h : WalkStep s t) (hs : s.PoolLaw) : t.PoolLaw := by
  cases h with
  | endsAtStart i o e => exact poolLaw_endOrder e i hs
  | fenceEnds i o => exact poolLaw_endOrder .done i hs
  | starts i o hq =>
    obtain ⟨u, h1, h2⟩ := startMove_adjusts s i o
    exact poolLaw_adjust h2 (poolLaw_adjust h1 (poolLaw_startClaims hq hs))
  | fenceWaits i o hq =>
    refine poolLaw_setSlot (s := s) (i := i) rfl rfl (fun j hj => ?_) ?_ ?_ hs
    · rw [slot_setSlot, if_neg hj.symm]
    · rw [slot_setSlot_self, hq]; rfl
    · rw [slot_setSlot_self, hq]; rfl

theorem slot_removeHead (s : State) (i j : SlotNo) (rest : List SlotNo) :
    (s.removeHead i rest).slot j = if i = j then .free else s.slot j :=
  slot_setSlot s i j .free

/-- The head of the completion order is DONE (R43). -/
theorem isDone_head {s : State} {i : SlotNo} {rest : List SlotNo} (hs : s.PoolLaw) (hc : s.completion = i :: rest) :
    (s.slot i).isDone = true :=
  (hs.2.2.2 i).1 (by simp [hc])

theorem not_holdsOrder_of_isDone {x : SlotState} (h : x.isDone = true) : x.isQueued = false ∧ x.isActive = false := by
  cases x with
  | done _ => exact ⟨rfl, rfl⟩
  | _ => cases h

theorem poolLaw_pop {s : State} (hs : s.PoolLaw) : s.pop.PoolLaw := by
  obtain h | ⟨i, rest, hc, h⟩ := pop_cases s
  · rwa [h]
  · rw [h]
    obtain ⟨hq, ha⟩ := not_holdsOrder_of_isDone (isDone_head hs hc)
    obtain ⟨h1, h2, h3, h4⟩ := hs
    rw [hc, List.nodup_cons] at h2
    refine ⟨h1, h2.2, fun j => ?_, fun j => ?_⟩
    · rw [slot_removeHead]
      refine (h3 j).trans ?_
      by_cases hij : i = j
      · subst hij
        rw [hq, ha, if_pos rfl]
        rfl
      · simp [hij]
    · rw [slot_removeHead]
      have hj := h4 j
      rw [hc, List.mem_cons] at hj
      by_cases hij : i = j
      · subst hij; simpa [SlotState.isDone, State.removeHead] using h2.1
      · simpa [hij, Ne.symm hij, State.removeHead] using hj

theorem poolLaw_of_free {t : State} (ha : t.acceptance = []) (hc : t.completion = []) (h : ∀ i, t.slot i = .free) :
    t.PoolLaw := by
  refine ⟨ha ▸ List.nodup_nil, hc ▸ List.nodup_nil, fun i => ?_, fun i => ?_⟩
  · simp [ha, h, SlotState.isQueued, SlotState.isActive]
  · simp [hc, h, SlotState.isDone]

theorem poolLaw_accept {s : State} {i : SlotNo} (o : Order) (hi : s.slot i = .free) (hs : s.PoolLaw) :
    (s.accept i o).PoolLaw := by
  obtain ⟨h1, h2, h3, h4⟩ := hs
  refine ⟨?_, h2, fun j => ?_, fun j => ?_⟩
  · have hn : i ∉ s.acceptance := by rw [h3, hi]; exact Bool.false_ne_true
    exact List.nodup_append.2 ⟨h1, List.nodup_singleton i, fun a ha b hb hab => hn (by simp_all)⟩
  · rw [slot_accept]
    have hj := h3 j
    by_cases hij : i = j
    · subst hij; simp [State.accept, SlotState.isQueued]
    · simp [State.accept, hij, Ne.symm hij, hj]
  · rw [slot_accept]
    refine (h4 j).trans ?_
    by_cases hij : i = j
    · subst hij; simp [hi, SlotState.isDone]
    · simp [hij]

theorem Change.poolLaw {s t : State} (h : Change s t) (hs : s.PoolLaw) : t.PoolLaw := by
  cases h with
  | adjusts h => exact poolLaw_adjust h hs
  | ends e i => exact poolLaw_endOrder e i hs
  | walks _ h => exact poolLaw_walk h hs
  | pops => exact poolLaw_pop hs
  | configures => exact hs
  | latches k => exact hs
  | motionReset =>
    obtain ⟨ha, hc, -⟩ := lists_cmdMotionReset s
    exact poolLaw_of_free ha hc (cmdMotionReset_slot s)
  | fullReset => exact poolLaw_of_free rfl rfl (slot_fullReset s)

theorem Course.poolLaw {s t : State} {b : Bool} (h : Course s b t) (hs : s.PoolLaw) : t.PoolLaw :=
  h.keeps (fun _ _ hu hc => hc.poolLaw hu) (fun _ _ o hu _ ht _ _ _ => poolLaw_accept o ht hu) hs

/-! ### A slot through a change -/

/-- What a change makes of a slot's kind, run and orders, where nothing ends, starts or leaves. -/
theorem ended_facts (s : State) (e : Ending) (x : SlotState) :
    (x.ended s e).kindFits = true ∧ (∀ a, (x.ended s e).runsFor a = false) ∧
      (∀ a, (x.ended s e).ordersFor a = false) ∧ (x.ended s e).number = none ∧ (x.ended s e).holdsGrant = false ∧
      (∀ p, (x.ended s e).moveHas p = true) ∧ (x.ended s e).move = none := by
  cases x <;> exact ⟨rfl, fun _ => rfl, fun _ => rfl, rfl, rfl, fun _ => rfl, rfl⟩

/-! ### The kinds (R49) -/

theorem kindLaw_adjust {s t : State} (h : s.Adjust t) (hs : s.KindLaw) : t.KindLaw := fun i =>
  (h.slots i).sameOrder.kindFits.trans (hs i)

theorem kindLaw_of_slot {s t : State} (hs : s.KindLaw) (h : ∀ i, t.slot i = s.slot i ∨ (t.slot i).kindFits = true) :
    t.KindLaw := fun i => (h i).elim (fun hi => hi ▸ hs i) id

theorem slot_endOrder_cases (s : State) (e : Ending) (i j : SlotNo) :
    (s.endOrder e i).slot j = s.slot j ∨
      (i = j ∧ (s.endOrder e i).slot j = (s.slot i).ended s e) := by
  rw [slot_endOrder]
  split
  · next hij => exact .inr ⟨hij, rfl⟩
  · exact .inl rfl

theorem kindLaw_endOrder {s : State} (e : Ending) (i : SlotNo) (hs : s.KindLaw) : (s.endOrder e i).KindLaw :=
  kindLaw_of_slot hs fun j => (slot_endOrder_cases s e i j).imp_right fun ⟨_, hj⟩ => hj ▸ (ended_facts s e _).1

theorem Change.kindLaw {s t : State} (h : Change s t) (hs : s.KindLaw) : t.KindLaw := by
  cases h with
  | adjusts h => exact kindLaw_adjust h hs
  | ends e i => exact kindLaw_endOrder e i hs
  | walks _ h =>
    cases h with
    | endsAtStart i o e => exact kindLaw_endOrder e i hs
    | fenceEnds i o => exact kindLaw_endOrder .done i hs
    | starts i o hq hk =>
      obtain ⟨u, h1, h2⟩ := startMove_adjusts s i o
      refine kindLaw_adjust h2 (kindLaw_adjust h1 (kindLaw_of_slot hs fun j => ?_))
      rw [slot_startClaims]
      split
      · exact .inr (by simpa [SlotState.kindFits] using hk)
      · exact .inl rfl
    | fenceWaits i o hq hk =>
      refine kindLaw_of_slot hs fun j => ?_
      rw [slot_setSlot]
      split
      · exact .inr (by simpa [SlotState.kindFits] using hk)
      · exact .inl rfl
  | pops =>
    obtain h | ⟨i, rest, hc, h⟩ := pop_cases s
    · rwa [h]
    · rw [h]
      refine kindLaw_of_slot hs fun j => ?_
      rw [slot_removeHead]
      split
      · exact .inr rfl
      · exact .inl rfl
  | configures => exact hs
  | latches k => exact hs
  | motionReset => exact fun i => by rw [cmdMotionReset_slot]; rfl
  | fullReset => exact fun i => by rw [slot_fullReset]; rfl

theorem kindLaw_accept {s : State} (i : SlotNo) (o : Order) (hs : s.KindLaw) : (s.accept i o).KindLaw :=
  kindLaw_of_slot hs fun j => by
    rw [slot_accept]
    split
    · exact .inr rfl
    · exact .inl rfl

/-! ### ACTIVE_SLOT (R4) -/

theorem activeSlotLaw_adjust {s t : State} (h : s.Adjust t) (hs : s.ActiveSlotLaw) : t.ActiveSlotLaw := by
  intro a i
  rw [(h.acts a).2, (h.slots i).sameOrder.runsFor]
  exact hs a i

/-- Slots change that run for no entry, and no entry's ACTIVE_SLOT does. -/
theorem activeSlotLaw_of_slot {s t : State} (hs : s.ActiveSlotLaw)
    (ha : ∀ a, (t.act a).activeSlot = (s.act a).activeSlot)
    (h : ∀ i a, (t.slot i).runsFor a = (s.slot i).runsFor a) : t.ActiveSlotLaw := by
  intro a i
  rw [ha, h]
  exact hs a i

theorem activeSlotLaw_endOrder {s : State} (e : Ending) (i : SlotNo) (hs : s.ActiveSlotLaw) :
    (s.endOrder e i).ActiveSlotLaw := by
  intro a j
  rw [act_endOrder, slot_endOrder]
  have hended : ((s.slot i).ended s e).runsFor a = false := (ended_facts s e _).2.1 a
  cases hr : (s.slot i).runsFor a with
  | true =>
    have hi : (s.act a).activeSlot = some i := (hs a i).2 hr
    by_cases hij : i = j
    · simp [if_pos hij, hended]
    · have hj : (s.slot j).runsFor a = false := by
        by_contra hj
        have := (hs a j).2 (by simpa using hj)
        rw [hi] at this
        exact hij (Option.some.inj this)
      simp [hij, hj]
  | false =>
    by_cases hij : i = j
    · subst hij
      have hn : (s.act a).activeSlot ≠ some i := fun h => by
        rw [(hs a i).1 h] at hr; cases hr
      simpa [hended] using hn
    · simpa [hij] using hs a j

theorem runsFor_done {x : SlotState} (h : x.isDone = true) (a : ActNo) : x.runsFor a = false := by
  cases x with
  | done _ => rfl
  | _ => cases h

theorem activeSlotLaw_startClaims {s : State} {i : SlotNo} {o : Order} (hq : s.slot i = .queued o)
    (hn : (s.act o.actuator).activeSlot = none) (hs : s.ActiveSlotLaw) : (s.startClaims i o).ActiveSlotLaw := by
  intro a j
  rw [act_startClaims, slot_startClaims]
  by_cases ha : o.actuator = a
  · subst ha
    have hj : (s.slot j).runsFor o.actuator = false := by
      by_contra hj
      have := (hs o.actuator j).2 (by simpa using hj)
      rw [hn] at this
      cases this
    by_cases hij : i = j
    · simp [hij, SlotState.runsFor]
    · simp [hij, hj]
  · have hsa := hs a j
    by_cases hij : i = j
    · subst hij
      rw [hq] at hsa
      simpa [ha, SlotState.runsFor] using hsa
    · simpa [ha, hij] using hsa

theorem considered_activeSlot {s : State} {i : SlotNo} {o : Order} (h : s.considered i o = true) :
    (s.act o.actuator).activeSlot = none := by
  simp only [State.considered, Bool.and_eq_true, Option.isNone_iff_eq_none] at h
  exact h.1.2

theorem Change.activeSlotLaw {s t : State} (h : Change s t) (hp : s.PoolLaw) (hs : s.ActiveSlotLaw) :
    t.ActiveSlotLaw := by
  cases h with
  | adjusts h => exact activeSlotLaw_adjust h hs
  | ends e i => exact activeSlotLaw_endOrder e i hs
  | walks _ h =>
    cases h with
    | endsAtStart i o e => exact activeSlotLaw_endOrder e i hs
    | fenceEnds i o => exact activeSlotLaw_endOrder .done i hs
    | starts i o hq _ hc =>
      obtain ⟨u, h1, h2⟩ := startMove_adjusts s i o
      exact activeSlotLaw_adjust h2
        (activeSlotLaw_adjust h1 (activeSlotLaw_startClaims hq (considered_activeSlot hc) hs))
    | fenceWaits i o hq =>
      refine activeSlotLaw_of_slot hs (fun _ => rfl) fun j a => ?_
      rw [slot_setSlot]
      split
      · next hij => rw [← hij, hq]; rfl
      · rfl
  | pops =>
    obtain h | ⟨i, rest, hc, h⟩ := pop_cases s
    · rwa [h]
    · rw [h]
      refine activeSlotLaw_of_slot hs (fun _ => rfl) fun j a => ?_
      rw [slot_removeHead]
      split
      · next hij => rw [← hij, runsFor_done (isDone_head hp hc)]; rfl
      · rfl
  | configures =>
    refine activeSlotLaw_of_slot hs (fun a => ?_) fun _ _ => rfl
    rw [act_setAct]
    split
    · next ha => rw [← ha, Actuator.applyPage]; split <;> rfl
    · rfl
  | latches k => exact hs
  | motionReset =>
    intro a i
    rw [act_cmdMotionReset, cmdMotionReset_slot]
    simp [Actuator.cutOff, SlotState.runsFor]
  | fullReset =>
    intro a i
    rw [act_fullReset, slot_fullReset]
    simp [Actuator.reset, SlotState.runsFor]

theorem activeSlotLaw_accept {s : State} {i : SlotNo} (o : Order) (hi : s.slot i = .free) (hs : s.ActiveSlotLaw) :
    (s.accept i o).ActiveSlotLaw := by
  refine activeSlotLaw_of_slot hs (fun _ => rfl) fun j a => ?_
  rw [slot_accept]
  split
  · next hij => rw [← hij, hi]; rfl
  · rfl

/-! ### The wiring (R8, R9) -/

theorem wiringLaw_of {s t : State} (hs : s.WiringLaw) (hc : ∀ a, (t.act a).config = (s.act a).config)
    (h : ∀ i a, (t.slot i).ordersFor a = true → (s.slot i).ordersFor a = true) : t.WiringLaw := by
  refine ⟨fun a => ?_, fun a i hi => ?_⟩
  · rw [hc]; exact hs.1 a
  · rw [hc]; exact hs.2 a i (h i a hi)

theorem wiringLaw_adjust {s t : State} (h : s.Adjust t) (hs : s.WiringLaw) : t.WiringLaw :=
  wiringLaw_of hs (fun a => (h.acts a).1) fun i a hi => by rwa [(h.slots i).sameOrder.ordersFor] at hi

theorem config_endOrder (s : State) (e : Ending) (i : SlotNo) (a : ActNo) :
    ((s.endOrder e i).act a).config = (s.act a).config := by
  rw [act_endOrder]
  split <;> rfl

theorem wiringLaw_endOrder {s : State} (e : Ending) (i : SlotNo) (hs : s.WiringLaw) : (s.endOrder e i).WiringLaw := by
  refine wiringLaw_of hs (config_endOrder s e i) fun j a hj => ?_
  obtain h | ⟨_, h⟩ := slot_endOrder_cases s e i j
  · rwa [h] at hj
  · rw [h, (ended_facts s e _).2.2.1 a] at hj
    cases hj

theorem config_startClaims (s : State) (i : SlotNo) (o : Order) (a : ActNo) :
    ((s.startClaims i o).act a).config = (s.act a).config := by
  rw [act_startClaims]
  split <;> rfl

theorem checkApply_ok {s : State} (h : s.checkApply = .ok) :
    s.busyEntry s.actSel = false ∧ s.page.badArg = false ∧ s.pairUsed s.actSel s.page = false ∧
      s.conflict s.page = false := by
  unfold State.checkApply at h
  by_cases h1 : s.busyEntry s.actSel = true
  · rw [if_pos h1] at h; cases h
  rw [if_neg h1] at h
  by_cases h2 : s.page.badArg = true
  · rw [if_pos h2] at h; cases h
  rw [if_neg h2] at h
  by_cases h3 : s.pairUsed s.actSel s.page = true
  · rw [if_pos h3] at h; cases h
  rw [if_neg h3] at h
  by_cases h4 : s.conflict s.page = true
  · rw [if_pos h4] at h; cases h
  exact ⟨by simpa using h1, by simpa using h2, by simpa using h3, by simpa using h4⟩

theorem busyEntry_eq_false {s : State} {a : ActNo} (h : s.busyEntry a = false) (i : SlotNo) :
    (s.slot i).ordersFor a = false := by
  simp only [State.busyEntry, List.any_eq_false, List.mem_finRange, true_implies] at h
  simpa using h i

theorem legOf_isSome {f : LegField} (h : f ≠ 0) (h6 : f ≤ 6) : (legOf f).isSome = true := by
  revert f
  decide

theorem wired_of_not_badArg {c : ActConfig} (h : c.badArg = false) : c.wired = true := by
  simp only [ActConfig.badArg, Bool.or_eq_false_iff, Bool.and_eq_false_iff, decide_eq_false_iff_not,
    beq_eq_false_iff_ne,
    BitVec.not_lt] at h
  obtain ⟨⟨⟨⟨-, hp⟩, hn⟩, hz⟩, hd⟩ := h
  unfold ActConfig.wired
  cases he : c.enabled with
  | false => rfl
  | true =>
    obtain hz | ⟨hp0, hn0⟩ := hz
    · rw [he] at hz; cases hz
    · obtain hd | hd := hd
      · rw [he] at hd; cases hd
      · simp [legOf_isSome hp0 hp, legOf_isSome hn0 hn, hd]

theorem config_applyPage (e : Actuator) (c : ActConfig) : (e.applyPage c).config = c := by
  unfold Actuator.applyPage
  split <;> rfl

theorem activeSlot_applyPage (e : Actuator) (c : ActConfig) : (e.applyPage c).activeSlot = e.activeSlot := by
  unfold Actuator.applyPage
  split <;> rfl

theorem wiringLaw_configures {s : State} (h : s.checkApply = .ok) (hs : s.WiringLaw) :
    (s.setAct s.actSel ((s.act s.actSel).applyPage s.page)).WiringLaw := by
  obtain ⟨hbusy, hbad, -, -⟩ := checkApply_ok h
  refine ⟨fun a => ?_, fun a i hi => ?_⟩
  · rw [act_setAct]
    split
    · rw [config_applyPage]; exact wired_of_not_badArg hbad
    · exact hs.1 a
  · rw [setAct_slotAt] at hi
    rw [act_setAct]
    split
    · next ha =>
      rw [← ha, busyEntry_eq_false hbusy i] at hi
      cases hi
    · exact hs.2 a i hi

theorem Change.wiringLaw {s t : State} (h : Change s t) (hs : s.WiringLaw) : t.WiringLaw := by
  cases h with
  | adjusts h => exact wiringLaw_adjust h hs
  | ends e i => exact wiringLaw_endOrder e i hs
  | walks _ h =>
    cases h with
    | endsAtStart i o e => exact wiringLaw_endOrder e i hs
    | fenceEnds i o => exact wiringLaw_endOrder .done i hs
    | starts i o hq =>
      obtain ⟨u, h1, h2⟩ := startMove_adjusts s i o
      refine wiringLaw_adjust h2 (wiringLaw_adjust h1 (wiringLaw_of hs (config_startClaims s i o) fun j a hj => ?_))
      rw [slot_startClaims] at hj
      split at hj
      · next hij => rw [← hij, hq]; exact hj
      · exact hj
    | fenceWaits i o hq =>
      refine wiringLaw_of hs (fun _ => rfl) fun j a hj => ?_
      rw [slot_setSlot] at hj
      split at hj
      · next hij => rw [← hij, hq]; exact hj
      · exact hj
  | pops =>
    obtain h | ⟨i, rest, hc, h⟩ := pop_cases s
    · rwa [h]
    · rw [h]
      refine wiringLaw_of hs (fun _ => rfl) fun j a hj => ?_
      rw [slot_removeHead] at hj
      split at hj
      · cases hj
      · exact hj
  | configures h => exact wiringLaw_configures h hs
  | latches k => exact hs
  | motionReset =>
    refine wiringLaw_of hs (fun a => by rw [act_cmdMotionReset]; rfl) fun i a hi => ?_
    rw [cmdMotionReset_slot] at hi
    cases hi
  | fullReset =>
    refine ⟨fun a => by rw [act_fullReset]; rfl, fun a i hi => ?_⟩
    rw [slot_fullReset] at hi
    cases hi

theorem wiringLaw_accept {s : State} {i : SlotNo} {o : Order}
    (hk : o.kind ≠ .fence → (s.act o.actuator).config.enabled = true) (hs : s.WiringLaw) :
    (s.accept i o).WiringLaw := by
  refine ⟨hs.1, fun a j hj => ?_⟩
  rw [slot_accept] at hj
  split at hj
  · simp only [SlotState.ordersFor, SlotState.order, Bool.and_eq_true, bne_iff_ne, beq_iff_eq] at hj
    obtain ⟨hf, ha⟩ := hj
    exact ha ▸ hk hf
  · exact hs.2 a j hj

end Sys2Proof.Machine
end

section
/-! PROOF. The laws of the claims and the legs, of pairs and bystanders through each kind of change (R10, R22, R23, R34, R77). -/

namespace Sys2Proof.Machine

/-! ### Who owns a claim (R22) -/

theorem owns_congr {s t : State} {i : SlotNo} (h : (s.slot i).GoesOn Move.goesOn (t.slot i))
    (hc : ∀ a, (t.act a).config = (s.act a).config) (ty : ClaimType) (k : LegNo) : t.owns i ty k = s.owns i ty k := by
  unfold State.owns
  generalize s.slot i = x at h
  generalize t.slot i = y at h
  cases h with
  | active o m n hm => simp only [State.config, hc, hm.1]
  | _ => rfl

theorem owns_eq_false {s : State} {i : SlotNo} (h : (s.slot i).move = none) (ty : ClaimType) (k : LegNo) :
    s.owns i ty k = false := by
  unfold State.owns
  cases hx : s.slot i with
  | active o m => rw [hx] at h; cases h
  | _ => rfl

/-- The law of claims, said once for both types of claim. -/
theorem claimLaw_iff (s : State) :
    s.ClaimLaw ↔ (∀ k, ((s.leg k).claims.map Claim.slot).Nodup) ∧
      ∀ k i ty, (⟨i, ty⟩ : Claim) ∈ (s.leg k).claims ↔ s.owns i ty k = true := by
  refine and_congr_right fun _ => ⟨fun h k i ty => ?_, fun h k i => ⟨h k i .drive, h k i .ret⟩⟩
  cases ty with
  | drive => exact (h k i).1
  | ret => exact (h k i).2

theorem claimLaw_of {s t : State} (hs : s.ClaimLaw) (hl : ∀ k, (t.leg k).claims = (s.leg k).claims)
    (ho : ∀ i ty k, t.owns i ty k = s.owns i ty k) : t.ClaimLaw := by
  rw [claimLaw_iff] at hs ⊢
  refine ⟨fun k => hl k ▸ hs.1 k, fun k i ty => ?_⟩
  rw [hl, ho]
  exact hs.2 k i ty

theorem claimLaw_adjust {s t : State} (h : s.Adjust t) (hs : s.ClaimLaw) : t.ClaimLaw :=
  claimLaw_of hs (fun k => (h.legs k).claims) fun i ty k => owns_congr (h.slots i) (fun a => (h.acts a).1) ty k

/-- The owner of a claim holds an active move (R22). -/
theorem move_of_claim {s : State} (hs : s.ClaimLaw) {k : LegNo} {c : Claim} (h : c ∈ (s.leg k).claims) :
    (s.slot c.slot).move ≠ none := by
  intro hm
  have ho := (((claimLaw_iff s).1 hs).2 k c.slot c.type).1 h
  rw [owns_eq_false hm] at ho
  cases ho

theorem owns_slot {s t : State} {i : SlotNo} (h : t.slot i = s.slot i) (hc : ∀ a, (t.act a).config = (s.act a).config)
    (ty : ClaimType) (k : LegNo) : t.owns i ty k = s.owns i ty k :=
  owns_congr (.of_eq Move.goesOn.refl h) hc ty k

theorem claims_endOrder (s : State) (e : Ending) (i : SlotNo) (k : LegNo) :
    ((s.endOrder e i).leg k).claims =
      if (s.slot i).move.isSome then (s.leg k).claims.filter fun c => c.slot != i else (s.leg k).claims := by
  rw [leg_endOrder]
  split <;> rfl

theorem claimLaw_endOrder {s : State} (e : Ending) (i : SlotNo) (hs : s.ClaimLaw) : (s.endOrder e i).ClaimLaw := by
  have hne : ∀ j, j ≠ i → ∀ ty k, (s.endOrder e i).owns j ty k = s.owns j ty k := fun j hj =>
    owns_slot (by rw [slot_endOrder, if_neg hj.symm]) (config_endOrder s e i)
  have hi : ∀ ty k, (s.endOrder e i).owns i ty k = false :=
    owns_eq_false (by rw [slot_endOrder, if_pos rfl]; exact (ended_facts s e _).2.2.2.2.2.2)
  cases hm : (s.slot i).move with
  | none =>
    refine claimLaw_of hs (fun k => by rw [claims_endOrder, hm]; rfl) fun j ty k => ?_
    by_cases hj : j = i
    · rw [hj, hi, owns_eq_false hm]
    · exact hne j hj ty k
  | some m =>
    have hl : ∀ k, ((s.endOrder e i).leg k).claims = (s.leg k).claims.filter fun c => c.slot != i := fun k => by
      rw [claims_endOrder, hm]; rfl
    rw [claimLaw_iff] at hs ⊢
    refine ⟨fun k => ?_, fun k j ty => ?_⟩
    · rw [hl]
      exact (List.filter_sublist.map _).nodup (hs.1 k)
    · rw [hl, List.mem_filter, hs.2]
      by_cases hj : j = i
      · simp [hj, hi]
      · simp [hj, hne j hj]

/-! ### A start and its claims (R22, R76) -/

/-- What the walk has found before it starts an order: two legs, neither OFF, the drive leg without a claim and the
return leg without a DRIVE claim (R75, R76). -/
structure State.Startable (s : State) (o : Order) (d r : LegNo) : Prop where
  drive : legOf (driveLeg (s.config o) (s.direction o)) = some d
  ret : legOf (returnLeg (s.config o) (s.direction o)) = some r
  ne : d ≠ r
  free : (s.leg d).claims = []
  undriven : (s.leg r).driven = false
  on : (s.leg d).state ≠ .off ∧ (s.leg r).state ≠ .off

/-- A leg field that names a leg is that leg's number. -/
theorem legOf_injective {f g : LegField} {k : LegNo} (hf : legOf f = some k) (hg : legOf g = some k) : f = g := by
  revert f g k
  decide

theorem wired_legs {c : ActConfig} (h : c.wired = true) (he : c.enabled = true) (d : Dir) :
    ∃ k j, legOf (driveLeg c d) = some k ∧ legOf (returnLeg c d) = some j ∧ k ≠ j := by
  simp only [ActConfig.wired, he, Bool.not_true, Bool.false_or, Bool.and_eq_true, Option.isSome_iff_exists,
    bne_iff_ne] at h
  obtain ⟨⟨⟨p, hp⟩, n, hn⟩, hne⟩ := h
  have hpn : p ≠ n := fun hpn => hne (legOf_injective hp (hpn ▸ hn))
  cases d with
  | opening => exact ⟨p, n, hp, hn, hpn⟩
  | closing => exact ⟨n, p, hn, hp, hpn.symm⟩

theorem offAt_of_startEnding {s : State} {o : Order} (h : s.startEnding o = none) :
    s.offAt (s.config o).posLeg = false ∧ s.offAt (s.config o).negLeg = false := by
  unfold State.startEnding at h
  split at h
  · cases h
  · next hoff => simpa using hoff

theorem offAt_legs {s : State} {o : Order} (h : s.startEnding o = none) (d : Dir) :
    s.offAt (driveLeg (s.config o) d) = false ∧ s.offAt (returnLeg (s.config o) d) = false := by
  obtain ⟨hp, hn⟩ := offAt_of_startEnding h
  cases d with
  | opening => exact ⟨hp, hn⟩
  | closing => exact ⟨hn, hp⟩

theorem state_of_offAt {s : State} {f : LegField} {k : LegNo} (hf : legOf f = some k) (h : s.offAt f = false) :
    (s.leg k).state ≠ .off := by
  simpa [State.offAt, hf] using h

theorem startable {s : State} {i : SlotNo} {o : Order} (hq : s.slot i = .queued o) (hk : o.kind ≠ .fence)
    (he : s.startEnding o = none) (ht : s.compatible i o = true) (hw : s.WiringLaw) : ∃ d r, s.Startable o d r := by
  have hen : (s.config o).enabled = true := hw.2 o.actuator i (by rw [hq]; simpa [SlotState.ordersFor, SlotState.order])
  obtain ⟨d, r, hd, hr, hdr⟩ := wired_legs (hw.1 o.actuator) hen (s.direction o)
  obtain ⟨hod, hor⟩ := offAt_legs he (s.direction o)
  simp only [State.compatible, State.legTest, Bool.and_eq_true, Bool.not_eq_true'] at ht
  obtain ⟨⟨⟨hcd, hdr'⟩, -⟩, -⟩ := ht
  refine ⟨d, r, hd, hr, hdr, ?_, ?_, state_of_offAt hd hod, state_of_offAt hr hor⟩
  · simpa [State.claimedAt, show legOf (driveLeg (s.config o) (s.direction o)) = some d from hd, Leg.claimed] using hcd
  · simpa [State.drivenAt, show legOf (returnLeg (s.config o) (s.direction o)) = some r from hr] using hdr'

theorem leg_withClaims {s : State} {o : Order} {d r : LegNo}
    (hd : legOf (driveLeg (s.config o) (s.direction o)) = some d)
    (hr : legOf (returnLeg (s.config o) (s.direction o)) = some r) (hne : d ≠ r) (i : SlotNo) (k : LegNo) :
    (s.withClaims i o).leg k =
      if k = d then (s.leg d).addClaim ⟨i, .drive⟩ else if k = r then (s.leg r).addClaim ⟨i, .ret⟩ else s.leg k := by
  rw [State.withClaims, leg_addClaim, leg_addClaim, hd, hr]
  by_cases hkd : k = d
  · simp [hkd, hne.symm]
  · by_cases hkr : k = r
    · simp [hkr, hne, hne.symm]
    · simp [hkd, hkr, Ne.symm hkd, Ne.symm hkr]

theorem enterDrive_keeps (s : State) (o : Order) (m : Move) :
    (s.enterDrive o m).dir = m.dir ∧ (s.enterDrive o m).extHeld = m.extHeld := by
  simp only [State.enterDrive, State.setDuty, State.rampFrom, State.startRamp, Move.startWindow, Move.approachNow]
  constructor <;> (repeat' split) <;> rfl

theorem owns_startClaims {s : State} {i : SlotNo} {o : Order} {d r : LegNo} (h : s.Startable o d r) (ty : ClaimType)
    (k : LegNo) : (s.startClaims i o).owns i ty k = decide (k = match ty with | .drive => d | .ret => r) := by
  have hdir : (s.enterDrive o (s.newMove o)).dir = s.direction o := (enterDrive_keeps s o _).1
  unfold State.owns
  rw [slot_startClaims, if_pos rfl]
  simp only [State.config, config_startClaims, hdir]
  cases ty with
  | drive =>
    rw [claimLeg, show legOf (driveLeg (s.act o.actuator).config (s.direction o)) = some d from h.drive]
    simp [Bool.beq_eq_decide_eq, eq_comm]
  | ret =>
    rw [claimLeg, show legOf (returnLeg (s.act o.actuator).config (s.direction o)) = some r from h.ret]
    simp [Bool.beq_eq_decide_eq, eq_comm]

theorem claimLaw_startClaims {s : State} {i : SlotNo} {o : Order} {d r : LegNo} (hq : s.slot i = .queued o)
    (h : s.Startable o d r) (hs : s.ClaimLaw) : (s.startClaims i o).ClaimLaw := by
  have hno : ∀ k ty, (⟨i, ty⟩ : Claim) ∉ (s.leg k).claims := fun k ty hc =>
    move_of_claim hs hc (by rw [hq]; rfl)
  have hnd : ∀ k, i ∉ (s.leg k).claims.map Claim.slot := fun k hi => by
    obtain ⟨⟨j, ty⟩, hc, rfl⟩ := List.mem_map.1 hi
    exact hno k ty hc
  rw [claimLaw_iff] at hs ⊢
  refine ⟨fun k => ?_, fun k j ty => ?_⟩
  · rw [leg_startClaims, leg_withClaims h.drive h.ret h.ne]
    have hadd : ∀ j ty, (((s.leg j).addClaim ⟨i, ty⟩).claims.map Claim.slot).Nodup := fun j ty => by
      simp only [Leg.addClaim, List.map_append, List.map_cons, List.map_nil]
      exact List.nodup_append.2 ⟨hs.1 j, List.nodup_singleton i, fun a ha b hb hab => hnd j (by simp_all)⟩
    split
    · exact hadd d .drive
    · split
      · exact hadd r .ret
      · exact hs.1 k
  · rw [leg_startClaims, leg_withClaims h.drive h.ret h.ne]
    by_cases hj : j = i
    · subst hj
      rw [owns_startClaims h]
      have hd := hno d
      have hr := hno r
      have hk := hno k
      have hne := h.ne
      cases ty with
      | drive =>
        by_cases hkd : k = d
        · simp [hkd, Leg.addClaim]
        · by_cases hkr : k = r
          · simp [hkr, hne.symm, Leg.addClaim, hr]
          · simp [hkd, hkr, hk]
      | ret =>
        by_cases hkd : k = d
        · simp [hkd, hne, Leg.addClaim, hd]
        · by_cases hkr : k = r
          · simp [hkr, hne.symm, Leg.addClaim]
          · simp [hkd, hkr, hk]
    · rw [owns_slot (by rw [slot_startClaims, if_neg (Ne.symm hj)]) (config_startClaims s i o), ← hs.2 k j ty]
      by_cases hkd : k = d
      · simp [hkd, Leg.addClaim, hj]
      · by_cases hkr : k = r
        · simp [hkr, h.ne.symm, Leg.addClaim, hj]
        · simp [hkd, hkr]

/-- A leg that may latch OFF has lost every claim to the endings before (R33). -/
theorem claims_of_latch {s : State} {k : LegNo}
    (h : ∀ i ∈ s.acceptance, (s.leg k).claimedBy i = true → (s.slot i).move = none) (hp : s.PoolLaw)
    (hs : s.ClaimLaw) : (s.leg k).claims = [] := by
  refine List.eq_nil_iff_forall_not_mem.2 fun c hc => ?_
  have hm := move_of_claim hs hc
  have ha : c.slot ∈ s.acceptance := by
    rw [hp.2.2.1]
    cases hx : s.slot c.slot <;> simp_all [SlotState.move, SlotState.isActive]
  exact hm (h c.slot ha (List.any_eq_true.2 ⟨c, hc, by simp⟩))

theorem claims_latchOff {s : State} {k : LegNo} (hk : (s.leg k).claims = []) (j : LegNo) :
    ((s.latchOff k).leg j).claims = (s.leg j).claims := by
  rw [leg_latchOff]
  split
  · next h => rw [← h, hk]
  · rfl

theorem claimLaw_of_empty {t : State} (hl : ∀ k, (t.leg k).claims = []) (h : ∀ i, t.slot i = .free) : t.ClaimLaw := by
  rw [claimLaw_iff]
  refine ⟨fun k => by rw [hl]; exact List.nodup_nil, fun k i ty => ?_⟩
  rw [hl, owns_eq_false (by rw [h]; rfl)]
  simp

theorem claims_cmdMotionReset (s : State) (k : LegNo) : (s.cmdMotionReset.leg k).claims = [] := by
  rw [leg_cmdMotionReset]; rfl

theorem claims_fullReset (s : State) (k : LegNo) : (s.fullReset.leg k).claims = [] := by
  rw [leg_fullReset]

theorem move_of_isDone {x : SlotState} (h : x.isDone = true) : x.move = none := by
  cases x with
  | done _ => rfl
  | _ => cases h

theorem owns_unmoved {s t : State} {i : SlotNo} (hs : (s.slot i).move = none) (ht : (t.slot i).move = none)
    (ty : ClaimType) (k : LegNo) : t.owns i ty k = s.owns i ty k := by
  rw [owns_eq_false hs, owns_eq_false ht]

theorem Change.claimLaw {s t : State} (h : Change s t) (hp : s.PoolLaw) (hkind : s.KindLaw) (hw : s.WiringLaw)
    (hs : s.ClaimLaw) : t.ClaimLaw := by
  cases h with
  | adjusts h => exact claimLaw_adjust h hs
  | ends e i => exact claimLaw_endOrder e i hs
  | walks _ h =>
    cases h with
    | endsAtStart i o e => exact claimLaw_endOrder e i hs
    | fenceEnds i o => exact claimLaw_endOrder .done i hs
    | starts i o hq hk _ he ht =>
      obtain ⟨d, r, hst⟩ := startable hq hk he ht hw
      obtain ⟨u, h1, h2⟩ := startMove_adjusts s i o
      exact claimLaw_adjust h2 (claimLaw_adjust h1 (claimLaw_startClaims hq hst hs))
    | fenceWaits i o hq =>
      refine claimLaw_of (t := s.setSlot i (.waiting o o.delay)) hs (fun _ => rfl) fun j ty k => ?_
      by_cases hj : i = j
      · subst hj
        exact owns_unmoved (by rw [hq]; rfl) (by rw [slot_setSlot_self]; rfl) ty k
      · exact owns_slot (s := s) (t := s.setSlot i (.waiting o o.delay)) (by rw [slot_setSlot, if_neg hj])
          (fun _ => rfl) ty k
  | pops =>
    obtain h | ⟨i, rest, hc, h⟩ := pop_cases s
    · rwa [h]
    · rw [h]
      refine claimLaw_of (t := s.removeHead i rest) hs (fun _ => rfl) fun j ty k => ?_
      by_cases hj : i = j
      · subst hj
        exact owns_unmoved (move_of_isDone (isDone_head hp hc)) (by rw [slot_removeHead, if_pos rfl]; rfl) ty k
      · exact owns_slot (s := s) (t := s.removeHead i rest) (by rw [slot_removeHead, if_neg hj]) (fun _ => rfl) ty k
  | configures h =>
    obtain ⟨hbusy, -, -, -⟩ := checkApply_ok h
    refine claimLaw_of hs (fun k => by rw [setAct_legAt]) fun i ty k => ?_
    unfold State.owns
    rw [setAct_slotAt]
    cases hx : s.slot i with
    | active o m =>
      have hb := busyEntry_eq_false hbusy i
      have hf := hkind i
      simp only [hx, SlotState.kindFits, bne_iff_ne] at hf
      simp only [hx, SlotState.ordersFor, SlotState.order, Bool.and_eq_false_iff, bne_eq_false_iff_eq, hf, false_or,
        beq_eq_false_iff_ne] at hb
      simp only [State.config, act_setAct, if_neg (Ne.symm hb)]
    | _ => rfl
  | latches k hk => exact claimLaw_of hs (claims_latchOff (claims_of_latch hk hp hs)) fun _ _ _ => rfl
  | motionReset => exact claimLaw_of_empty (claims_cmdMotionReset s) (cmdMotionReset_slot s)
  | fullReset => exact claimLaw_of_empty (claims_fullReset s) (slot_fullReset s)

/-! ### A DRIVE claim alone, and none on an OFF leg (R23, R34) -/

theorem driveLaw_of {s t : State} (hs : s.DriveLaw) (h : ∀ k, (t.leg k).claims = (s.leg k).claims) : t.DriveLaw := by
  intro k hk
  rw [h]
  refine hs k ?_
  rwa [Leg.driven, h] at hk

theorem driven_iff (l : Leg) : l.driven = true ↔ ∃ c ∈ l.claims, c.type = .drive := by
  simp [Leg.driven]

theorem driveLaw_endOrder {s : State} (e : Ending) (i : SlotNo) (hs : s.DriveLaw) : (s.endOrder e i).DriveLaw := by
  intro k hk
  obtain ⟨c, hc, hd⟩ := (driven_iff _).1 hk
  have hsub : ((s.endOrder e i).leg k).claims.Sublist (s.leg k).claims := by
    rw [claims_endOrder]
    split
    · exact List.filter_sublist
    · exact List.Sublist.refl _
  have h1 := hs k ((driven_iff _).2 ⟨c, hsub.subset hc, hd⟩)
  have h2 := hsub.length_le
  have h3 := List.length_pos_of_mem hc
  omega

theorem driveLaw_startClaims {s : State} {i : SlotNo} {o : Order} {d r : LegNo} (h : s.Startable o d r)
    (hs : s.DriveLaw) : (s.startClaims i o).DriveLaw := by
  intro k
  rw [leg_startClaims, leg_withClaims h.drive h.ret h.ne]
  have hr := h.undriven
  split
  · intro _
    simp [Leg.addClaim, h.free]
  · split
    · intro hk
      simp only [Leg.driven, Leg.addClaim, List.any_append, List.any_cons, List.any_nil] at hk hr
      rw [hr] at hk
      cases hk
    · exact hs k

theorem driveLaw_of_empty {t : State} (hl : ∀ k, (t.leg k).claims = []) : t.DriveLaw := by
  intro k hk
  rw [Leg.driven, hl] at hk
  cases hk

theorem Change.driveLaw {s t : State} (h : Change s t) (hw : s.WiringLaw) (hs : s.DriveLaw) : t.DriveLaw := by
  cases h with
  | adjusts h => exact driveLaw_of hs fun k => (h.legs k).claims
  | ends e i => exact driveLaw_endOrder e i hs
  | walks _ h =>
    cases h with
    | endsAtStart i o e => exact driveLaw_endOrder e i hs
    | fenceEnds i o => exact driveLaw_endOrder .done i hs
    | starts i o hq hk _ he ht =>
      obtain ⟨d, r, hst⟩ := startable hq hk he ht hw
      obtain ⟨u, h1, h2⟩ := startMove_adjusts s i o
      exact driveLaw_of (driveLaw_of (driveLaw_startClaims hst hs) fun k => (h1.legs k).claims) fun k =>
        (h2.legs k).claims
    | fenceWaits i o => exact hs
  | pops =>
    obtain h | ⟨i, rest, -, h⟩ := pop_cases s
    · rwa [h]
    · rw [h]; exact hs
  | configures => exact hs
  | latches k =>
    intro j
    rw [leg_latchOff]
    split
    · exact fun h => by cases h
    · exact hs j
  | motionReset => exact driveLaw_of_empty (claims_cmdMotionReset s)
  | fullReset => exact driveLaw_of_empty (claims_fullReset s)

theorem offLaw_adjust {s t : State} (h : s.Adjust t) (hs : s.OffLaw) : t.OffLaw := fun k hk => by
  rw [(h.legs k).claims]
  exact hs k ((h.legs k).off hk)

theorem offLaw_endOrder {s : State} (e : Ending) (i : SlotNo) (hs : s.OffLaw) : (s.endOrder e i).OffLaw := by
  intro k hk
  have hstate : ((s.endOrder e i).leg k).state = (s.leg k).state := by
    rw [leg_endOrder]
    split <;> rfl
  rw [claims_endOrder, hs k (hstate ▸ hk)]
  simp

/-- No order starts on a leg in OFF (R75). -/
theorem offLaw_startClaims {s : State} {i : SlotNo} {o : Order} (he : s.startEnding o = none) (hs : s.OffLaw) :
    (s.startClaims i o).OffLaw := by
  obtain ⟨hd, hr⟩ := offAt_legs he (s.direction o)
  intro k
  rw [leg_startClaims, State.withClaims, leg_addClaim, leg_addClaim]
  split
  · next hk =>
    have hoff := state_of_offAt hk hr
    exact fun h => absurd (by revert h; split <;> exact id) hoff
  · split
    · next hk => exact fun h => absurd h (state_of_offAt hk hd)
    · exact hs k

theorem Change.offLaw {s t : State} (h : Change s t) (hs : s.OffLaw) : t.OffLaw := by
  cases h with
  | adjusts h => exact offLaw_adjust h hs
  | ends e i => exact offLaw_endOrder e i hs
  | walks _ h =>
    cases h with
    | endsAtStart i o e => exact offLaw_endOrder e i hs
    | fenceEnds i o => exact offLaw_endOrder .done i hs
    | starts i o hq hk _ he ht =>
      obtain ⟨u, h1, h2⟩ := startMove_adjusts s i o
      exact offLaw_adjust h2 (offLaw_adjust h1 (offLaw_startClaims he hs))
    | fenceWaits i o => exact hs
  | pops =>
    obtain h | ⟨i, rest, -, h⟩ := pop_cases s
    · rwa [h]
    · rw [h]; exact hs
  | configures => exact hs
  | latches k =>
    intro j
    rw [leg_latchOff]
    split
    · exact fun _ => rfl
    · exact hs j
  | motionReset => exact fun k _ => claims_cmdMotionReset s k
  | fullReset => exact fun k _ => claims_fullReset s k

/-! ### The laws of the claims together -/

theorem Change.claimLaws {s t : State} (h : Change s t) (hs : s.ClaimLaws) : t.ClaimLaws := by
  obtain ⟨hp, hk, ha, hw, hc, hd, ho⟩ := hs
  exact ⟨h.poolLaw hp, h.kindLaw hk, h.activeSlotLaw hp ha, h.wiringLaw hw, h.claimLaw hp hk hw hc, h.driveLaw hw hd,
    h.offLaw ho⟩

theorem claimLaws_accept {s : State} {i : SlotNo} {o : Order} (hi : s.slot i = .free)
    (hko : o.kind ≠ .fence → (s.act o.actuator).config.enabled = true) (hs : s.ClaimLaws) :
    (s.accept i o).ClaimLaws := by
  obtain ⟨hp, hk, ha, hw, hc, hd, ho⟩ := hs
  refine ⟨poolLaw_accept o hi hp, kindLaw_accept i o hk, activeSlotLaw_accept o hi ha, wiringLaw_accept hko hw,
    claimLaw_of (t := s.accept i o) hc (fun _ => rfl) fun j ty k => ?_, hd, ho⟩
  by_cases hj : i = j
  · subst hj
    exact owns_unmoved (by rw [hi]; rfl) (by rw [slot_accept, if_pos rfl]; rfl) ty k
  · exact owns_slot (s := s) (t := s.accept i o) (by rw [slot_accept, if_neg hj]) (fun _ => rfl) ty k

theorem Course.claimLaws {s t : State} {b : Bool} (h : Course s b t) (hs : s.ClaimLaws) : t.ClaimLaws :=
  h.keeps (fun _ _ hu hc => hc.claimLaws hu) (fun _ _ _ hu _ ht hk _ _ => claimLaws_accept ht hk hu) hs

theorem Course.offLaw {s t : State} {b : Bool} (h : Course s b t) (hs : s.OffLaw) : t.OffLaw :=
  h.keeps (fun _ _ hu hc => hc.offLaw hu) (fun _ _ _ hu _ _ _ _ _ => hu) hs

/-! ### Bystanders and pairs (R10, R77) -/

theorem drivenAcross_congr {s t : State} (h : ∀ k, (t.leg k).claims = (s.leg k).claims) (c : ActConfig) :
    t.drivenAcross c = s.drivenAcross c := by
  have hd : ∀ f, t.drivenAt f = s.drivenAt f := fun f => by
    unfold State.drivenAt; cases legOf f <;> simp [Leg.driven, h]
  have hc : ∀ f, t.claimedAt f = s.claimedAt f := fun f => by
    unfold State.claimedAt; cases legOf f <;> simp [Leg.claimed, h]
  simp only [State.drivenAcross, hd, hc]

theorem bystanderLaw_of {s t : State} (hs : s.BystanderLaw) (hl : ∀ k, (t.leg k).claims = (s.leg k).claims)
    (ha : ∀ a, (t.act a).config = (s.act a).config ∧ (t.act a).activeSlot = (s.act a).activeSlot) :
    t.BystanderLaw := by
  intro b hb
  obtain ⟨hc, hx⟩ := ha b
  rw [drivenAcross_congr hl, hc]
  refine hs b ?_
  rwa [Actuator.bystander, hc, hx] at hb

/-- Fewer claims drive across no more entries. -/
theorem drivenAcross_mono {s t : State} (h : ∀ k, (t.leg k).claims.Sublist (s.leg k).claims) {c : ActConfig}
    (hc : s.drivenAcross c = false) : t.drivenAcross c = false := by
  have hd : ∀ f, t.drivenAt f = true → s.drivenAt f = true := fun f => by
    unfold State.drivenAt
    cases legOf f with
    | none => exact id
    | some k =>
      simp only [driven_iff]
      exact fun ⟨x, hx, ht⟩ => ⟨x, (h k).subset hx, ht⟩
  have hcl : ∀ f, t.claimedAt f = true → s.claimedAt f = true := fun f => by
    unfold State.claimedAt
    cases legOf f with
    | none => exact id
    | some k =>
      simp only [Leg.claimed, Bool.not_eq_true', List.isEmpty_eq_false_iff]
      exact fun hne he => hne (List.sublist_nil.1 (he ▸ h k))
  by_contra hn
  simp only [State.drivenAcross, Bool.not_eq_false, Bool.or_eq_true, Bool.and_eq_true] at hn hc
  obtain ⟨h1, h2⟩ | ⟨h1, h2⟩ := hn
  · rw [hd _ h1, hcl _ h2] at hc; cases hc
  · rw [hd _ h1, hcl _ h2] at hc; simp at hc

theorem claims_endOrder_sublist (s : State) (e : Ending) (i : SlotNo) (k : LegNo) :
    ((s.endOrder e i).leg k).claims.Sublist (s.leg k).claims := by
  rw [claims_endOrder]
  split
  · exact List.filter_sublist
  · exact List.Sublist.refl _

/-- On the two legs of the move that ends no DRIVE claim is left: its own is gone, and where its RETURN claim stood
there was none (R23, R24). -/
theorem undriven_endOrder {s : State} {i : SlotNo} {o : Order} {m : Move} (e : Ending) (hs : s.ClaimLaws)
    (hx : s.slot i = .active o m) {ty : ClaimType} {k : LegNo}
    (hk : legOf (claimLeg (s.config o) m.dir ty) = some k) : ((s.endOrder e i).leg k).driven = false := by
  obtain ⟨-, -, -, -, hc, hd, -⟩ := hs
  have hmem : (⟨i, ty⟩ : Claim) ∈ (s.leg k).claims := by
    refine (((claimLaw_iff s).1 hc).2 k i ty).2 ?_
    simp [State.owns, hx, hk]
  by_contra hdr
  obtain ⟨c, hc', hty⟩ := (driven_iff _).1 (by simpa using hdr)
  rw [claims_endOrder, hx] at hc'
  obtain ⟨hcm, hci⟩ := List.mem_filter.1 hc'
  obtain ⟨x, hxl⟩ := List.length_eq_one_iff.1 (hd k ((driven_iff _).2 ⟨c, hcm, hty⟩))
  rw [hxl, List.mem_singleton] at hmem hcm
  rw [hcm, ← hmem] at hci
  simp at hci

theorem bystanderLaw_endOrder {s : State} (e : Ending) (i : SlotNo) (hc : s.ClaimLaws) (hs : s.BystanderLaw) :
    (s.endOrder e i).BystanderLaw := by
  intro b hb
  rw [config_endOrder]
  cases hr : (s.slot i).runsFor b with
  | false =>
    refine drivenAcross_mono (claims_endOrder_sublist s e i) (hs b ?_)
    rwa [act_endOrder, hr] at hb
  | true =>
    cases hx : s.slot i with
    | active o m =>
      rw [hx] at hr
      obtain rfl : o.actuator = b := by simpa [SlotState.runsFor] using hr
      have hd : ∀ f, (f = driveLeg (s.config o) m.dir ∨ f = returnLeg (s.config o) m.dir) →
          (s.endOrder e i).drivenAt f = false := by
        intro f hf
        unfold State.drivenAt
        cases hk : legOf f with
        | none => rfl
        | some k =>
          obtain rfl | rfl := hf
          · exact undriven_endOrder e hc hx (ty := .drive) hk
          · exact undriven_endOrder e hc hx (ty := .ret) hk
      have hp : (s.endOrder e i).drivenAt (s.config o).posLeg = false := by
        refine hd _ ?_
        cases m.dir
        · exact .inl rfl
        · exact .inr rfl
      have hn : (s.endOrder e i).drivenAt (s.config o).negLeg = false := by
        refine hd _ ?_
        cases m.dir
        · exact .inr rfl
        · exact .inl rfl
      simp only [State.config] at hp hn
      simp only [State.drivenAcross, hp, hn, Bool.false_and, Bool.or_false]
    | _ => rw [hx] at hr; cases hr

theorem bystanderLaw_startClaims {s : State} {i : SlotNo} {o : Order} (ht : s.compatible i o = true) :
    (s.startClaims i o).BystanderLaw := by
  simp only [State.compatible, State.bystanderTest, Bool.and_eq_true, List.all_eq_true, List.mem_finRange,
    true_implies, Bool.or_eq_true, beq_iff_eq, Bool.not_eq_true'] at ht
  obtain ⟨⟨-, ht⟩, -⟩ := ht
  intro b hb
  rw [config_startClaims, drivenAcross_congr (s := s.withClaims i o) fun k => by rw [leg_startClaims]]
  rw [act_startClaims] at hb
  split at hb
  · simp [Actuator.bystander] at hb
  · next hne =>
    obtain (h | h) | h := ht b
    · exact absurd h.symm hne
    · rw [h] at hb; cases hb
    · exact h

theorem drivenAcross_of_empty {t : State} (hl : ∀ k, (t.leg k).claims = []) (c : ActConfig) :
    t.drivenAcross c = false := by
  have hd : ∀ f, t.drivenAt f = false := fun f => by
    unfold State.drivenAt; cases legOf f <;> simp [Leg.driven, hl]
  simp [State.drivenAcross, hd]

theorem Change.bystanderLaw {s t : State} (h : Change s t) (hc : s.ClaimLaws) (hs : s.BystanderLaw) :
    t.BystanderLaw := by
  cases h with
  | adjusts h => exact bystanderLaw_of hs (fun k => (h.legs k).claims) h.acts
  | ends e i => exact bystanderLaw_endOrder e i hc hs
  | walks _ h =>
    cases h with
    | endsAtStart i o e => exact bystanderLaw_endOrder e i hc hs
    | fenceEnds i o => exact bystanderLaw_endOrder .done i hc hs
    | starts i o hq hk _ he ht =>
      obtain ⟨u, h1, h2⟩ := startMove_adjusts s i o
      exact bystanderLaw_of (bystanderLaw_of (bystanderLaw_startClaims ht) (fun k => (h1.legs k).claims) h1.acts)
        (fun k => (h2.legs k).claims) h2.acts
    | fenceWaits i o => exact hs
  | pops =>
    obtain h | ⟨i, rest, -, h⟩ := pop_cases s
    · rwa [h]
    · rw [h]; exact hs
  | configures h =>
    obtain ⟨-, -, -, hcon⟩ := checkApply_ok h
    intro b hb
    rw [drivenAcross_congr (s := s) fun k => by rw [setAct_legAt]]
    rw [act_setAct] at hb ⊢
    split at hb
    · next hab =>
      rw [if_pos hab, config_applyPage]
      rw [Actuator.bystander, config_applyPage, Bool.and_eq_true] at hb
      rwa [State.conflict, hb.1, Bool.true_and] at hcon
    · next hab =>
      rw [if_neg hab]
      exact hs b hb
  | latches k hk =>
    obtain ⟨hp, -, -, -, hcl, -, -⟩ := hc
    exact bystanderLaw_of hs (claims_latchOff (claims_of_latch hk hp hcl)) fun _ => ⟨rfl, rfl⟩
  | motionReset => exact fun b _ => drivenAcross_of_empty (claims_cmdMotionReset s) _
  | fullReset => exact fun b _ => drivenAcross_of_empty (claims_fullReset s) _

theorem Course.bystanderLaw {s t : State} {b : Bool} (h : Course s b t) (hc : s.ClaimLaws) (hs : s.BystanderLaw) :
    t.BystanderLaw :=
  (h.keeps (P := fun u => u.ClaimLaws ∧ u.BystanderLaw)
    (fun _ _ hu hc => ⟨hc.claimLaws hu.1, hc.bystanderLaw hu.1 hu.2⟩)
    (fun _ _ _ hu _ ht hk _ _ => ⟨claimLaws_accept ht hk hu.1, hu.2⟩) ⟨hc, hs⟩).2

theorem samePair_comm (c d : ActConfig) : samePair c d = samePair d c := by
  rw [Bool.eq_iff_iff]
  simp only [samePair, Bool.or_eq_true, Bool.and_eq_true, beq_iff_eq]
  constructor
  · rintro (⟨h1, h2⟩ | ⟨h1, h2⟩)
    · exact .inl ⟨h1.symm, h2.symm⟩
    · exact .inr ⟨h2.symm, h1.symm⟩
  · rintro (⟨h1, h2⟩ | ⟨h1, h2⟩)
    · exact .inl ⟨h1.symm, h2.symm⟩
    · exact .inr ⟨h2.symm, h1.symm⟩

theorem pairLaw_of {s t : State} (hs : s.PairLaw) (h : ∀ a, (t.act a).config = (s.act a).config) : t.PairLaw := by
  intro a b
  rw [h, h]
  exact hs a b

theorem pairUsed_eq_false {s : State} {a b : ActNo} {c : ActConfig} (h : s.pairUsed a c = false) (hc : c.enabled = true)
    (hab : b ≠ a) (hb : (s.act b).config.enabled = true) : samePair (s.act b).config c = false := by
  simp only [State.pairUsed, hc, Bool.true_and, List.any_eq_false, List.mem_finRange, true_implies, Bool.and_eq_true,
    bne_iff_ne, not_and, Bool.not_eq_true] at h
  exact h b ⟨hab, hb⟩

theorem Change.pairLaw {s t : State} (h : Change s t) (hs : s.PairLaw) : t.PairLaw := by
  cases h with
  | adjusts h => exact pairLaw_of hs fun a => (h.acts a).1
  | ends e i => exact pairLaw_of hs (config_endOrder s e i)
  | walks _ h =>
    cases h with
    | endsAtStart i o e => exact pairLaw_of hs (config_endOrder s e i)
    | fenceEnds i o => exact pairLaw_of hs (config_endOrder s .done i)
    | starts i o =>
      obtain ⟨u, h1, h2⟩ := startMove_adjusts s i o
      exact pairLaw_of hs fun a => ((h2.acts a).1.trans (h1.acts a).1).trans (config_startClaims s i o a)
    | fenceWaits i o => exact hs
  | pops =>
    obtain h | ⟨i, rest, -, h⟩ := pop_cases s
    · rwa [h]
    · rw [h]; exact hs
  | configures h =>
    obtain ⟨-, -, hpair, -⟩ := checkApply_ok h
    intro a b hab ha hb
    rw [act_setAct] at ha hb ⊢
    rw [act_setAct]
    by_cases h1 : s.actSel = a
    · have h2 : s.actSel ≠ b := fun h2 => hab (h1.symm.trans h2)
      rw [if_pos h1, config_applyPage] at ha ⊢
      rw [if_neg h2] at hb ⊢
      rw [samePair_comm]
      exact pairUsed_eq_false hpair ha (Ne.symm h2) hb
    · rw [if_neg h1] at ha ⊢
      by_cases h2 : s.actSel = b
      · rw [if_pos h2, config_applyPage] at hb ⊢
        exact pairUsed_eq_false hpair hb (Ne.symm h1) ha
      · rw [if_neg h2] at hb ⊢
        exact hs a b hab ha hb
  | latches k => exact hs
  | motionReset => exact pairLaw_of hs fun a => by rw [act_cmdMotionReset]; rfl
  | fullReset =>
    intro a b _ ha
    rw [act_fullReset] at ha
    cases ha

theorem Course.pairLaw {s t : State} {b : Bool} (h : Course s b t) (hs : s.PairLaw) : t.PairLaw :=
  h.keeps (fun _ _ hu hc => hc.pairLaw hu) (fun _ _ _ hu _ _ _ _ _ => hu) hs

end Sys2Proof.Machine
end

section
/-! PROOF. The laws of the moves, the grant, the monitors, the stored values, the order numbers, the runs of the legs, the demand and the records through each kind of change (R25, R26, R49, R52, R70, R78, R86, R112 to R136, R157, R177, R178). -/

namespace Sys2Proof.Machine

/-! ### Drive periods (R88 to R90, R94) -/

/-- A duty set anew leaves the rest of the move (R94). -/
theorem setDuty_eq (s : State) (m : Move) : ∃ d, s.setDuty m = { m with duty := d } := by
  unfold State.setDuty
  split
  · exact ⟨_, rfl⟩
  · exact ⟨m.duty, rfl⟩

@[simp] theorem setDuty_phase (s : State) (m : Move) : (s.setDuty m).phase = m.phase := by
  obtain ⟨d, hd⟩ := setDuty_eq s m
  rw [hd]

@[simp] theorem setDuty_lawful (s : State) (m : Move) : (s.setDuty m).lawful = m.lawful := by
  obtain ⟨d, hd⟩ := setDuty_eq s m
  rw [hd]
  rfl

@[simp] theorem setDuty_keeps (s : State) (m : Move) :
    (s.setDuty m).dir = m.dir ∧ (s.setDuty m).extHeld = m.extHeld := by
  obtain ⟨d, hd⟩ := setDuty_eq s m
  rw [hd]
  exact ⟨rfl, rfl⟩

/-- A move holds nothing that only BRAKING and SUSPENDED hold (R86). -/
def Move.clean (m : Move) : Prop :=
  m.outcome = none ∧ m.brakeTimer = none ∧ m.suspendTimer = none ∧ m.holdPending = false

/-- A drive period begins in a driving phase, lawfully (R88, R90). -/
theorem enterDrive_lawful {s : State} {o : Order} {m : Move} (h : m.clean) :
    (s.enterDrive o m).phase.driving = true ∧ (s.enterDrive o m).lawful = true := by
  obtain ⟨h1, h2, h3, h4⟩ := h
  unfold State.enterDrive
  split
  · rw [setDuty_phase, setDuty_lawful]
    exact ⟨rfl, by simp [Move.lawful, Move.startWindow, h1, h2, h3, h4]⟩
  · next hext =>
    have hext : m.extHeld = false := by simpa using hext
    dsimp only
    rw [setDuty_phase, setDuty_lawful]
    unfold State.rampFrom
    split <;> split <;> refine ⟨rfl, ?_⟩ <;>
      simp [Move.lawful, Move.startWindow, Move.approachNow, State.startRamp, h1, h2, h3, h4, hext]

theorem newMove_clean (s : State) (o : Order) : (s.newMove o).clean := ⟨rfl, rfl, rfl, rfl⟩

/-- While no condition of R70 holds a driving move is allowed. -/
theorem allows_of_open {s : State} {m : Move} (hb : s.blocked = false) (hm : m.phase.driving = true) :
    s.allows m = true := by
  obtain ⟨-, hh, hsup, ht1, ht2⟩ := (blocked_eq_false_iff s).1 hb
  simp only [State.allows, Move.fitsHold, hh, hsup]
  cases hp : m.phase <;> simp_all [Phase.driving]

/-! ### Moves and monitors -/

theorem moveLaw_of_slot {s t : State} {p : Move → Bool} (hs : ∀ i, (s.slot i).moveHas p = true)
    (h : ∀ i, t.slot i = s.slot i ∨ (t.slot i).moveHas p = true) (i : SlotNo) : (t.slot i).moveHas p = true :=
  (h i).elim (fun hi => hi ▸ hs i) id

/-- Where nothing starts, a slot that changes holds no move after the change. -/
theorem moveHas_endOrder (s : State) (e : Ending) (i : SlotNo) (p : Move → Bool) (j : SlotNo) :
    (s.endOrder e i).slot j = s.slot j ∨ ((s.endOrder e i).slot j).moveHas p = true :=
  (slot_endOrder_cases s e i j).imp_right fun ⟨_, h⟩ => h ▸ (ended_facts s e _).2.2.2.2.2.1 p

theorem moveHas_wait (s : State) (i : SlotNo) (o : Order) (n : Ticks) (p : Move → Bool) (j : SlotNo) :
    (s.setSlot i (.waiting o n)).slot j = s.slot j ∨ ((s.setSlot i (.waiting o n)).slot j).moveHas p = true := by
  rw [slot_setSlot]
  split
  · exact .inr rfl
  · exact .inl rfl

theorem moveHas_pop (s : State) (p : Move → Bool) (j : SlotNo) :
    s.pop.slot j = s.slot j ∨ (s.pop.slot j).moveHas p = true := by
  obtain h | ⟨i, rest, -, h⟩ := pop_cases s
  · exact .inl (by rw [h])
  · rw [h, slot_removeHead]
    split
    · exact .inr rfl
    · exact .inl rfl

theorem moveHas_accept (s : State) (i : SlotNo) (o : Order) (p : Move → Bool) (j : SlotNo) :
    (s.accept i o).slot j = s.slot j ∨ ((s.accept i o).slot j).moveHas p = true := by
  rw [slot_accept]
  split
  · exact .inr rfl
  · exact .inl rfl

theorem moveHas_startClaims {s : State} {p : Move → Bool} {o : Order} (hp : p (s.enterDrive o (s.newMove o)) = true)
    (i j : SlotNo) : (s.startClaims i o).slot j = s.slot j ∨ ((s.startClaims i o).slot j).moveHas p = true := by
  rw [slot_startClaims]
  split
  · exact .inr hp
  · exact .inl rfl

theorem moveLaw_adjust {s t : State} (h : s.Adjust t) (hs : s.MoveLaw) : t.MoveLaw := fun i =>
  (h.slots i).sameOrder.lawful (hs i)

theorem Change.moveLaw {s t : State} (h : Change s t) (hs : s.MoveLaw) : t.MoveLaw := by
  cases h with
  | adjusts h => exact moveLaw_adjust h hs
  | ends e i => exact moveLaw_of_slot hs (moveHas_endOrder s e i _)
  | walks _ h =>
    cases h with
    | endsAtStart i o e => exact moveLaw_of_slot hs (moveHas_endOrder s e i _)
    | fenceEnds i o => exact moveLaw_of_slot hs (moveHas_endOrder s .done i _)
    | starts i o =>
      obtain ⟨u, h1, h2⟩ := startMove_adjusts s i o
      have hnew : (s.startClaims i o).MoveLaw :=
        moveLaw_of_slot hs (moveHas_startClaims (enterDrive_lawful (newMove_clean s o)).2 i)
      exact moveLaw_adjust h2 (moveLaw_adjust h1 hnew)
    | fenceWaits i o => exact moveLaw_of_slot hs (moveHas_wait s i o _ _)
  | pops => exact moveLaw_of_slot hs (moveHas_pop s _)
  | configures => exact hs
  | latches k => exact hs
  | motionReset => exact fun i => by rw [cmdMotionReset_slot]; rfl
  | fullReset => exact fun i => by rw [slot_fullReset]; rfl

theorem Course.moveLaw {s t : State} {b : Bool} (h : Course s b t) (hs : s.MoveLaw) : t.MoveLaw :=
  h.keeps (fun _ _ hu hc => hc.moveLaw hu) (fun u i o hu _ _ _ _ _ => moveLaw_of_slot hu (moveHas_accept u i o _)) hs

theorem monitorLaw_of_slot {s t : State} (hm : t.monitors = s.monitors) (hs : s.MonitorLaw)
    (h : ∀ i, t.slot i = s.slot i ∨ (t.slot i).moveHas s.allows = true)
    (hr : s.inReset = true → ∀ i, t.slot i = .free) : t.MonitorLaw := by
  refine ⟨?_, fun h => hr (inReset_of_monitors hm ▸ h)⟩
  rw [allows_congr hm]
  exact moveLaw_of_slot hs.1 h

theorem monitorLaw_endOrder {s : State} (e : Ending) (i : SlotNo) (hs : s.MonitorLaw) :
    (s.endOrder e i).MonitorLaw := by
  refine monitorLaw_of_slot (monitors_of_sameOutside (sameOutside_endOrder s e i)) hs (moveHas_endOrder s e i _)
    fun hr j => ?_
  rw [endOrder_of_not_holdsOrder e (by rw [hs.2 hr i]; rfl)]
  exact hs.2 hr j

theorem monitorLaw_startClaims {s : State} {i : SlotNo} {o : Order} (hb : s.blocked = false)
    (hq : s.slot i = .queued o) (hs : s.MonitorLaw) : (s.startClaims i o).MonitorLaw := by
  refine monitorLaw_of_slot (monitors_of_sameOutside (sameOutside_startClaims s i o)) hs
    (moveHas_startClaims (allows_of_open hb (enterDrive_lawful (newMove_clean s o)).1) i) fun hr => ?_
  rw [hs.2 hr i] at hq
  cases hq

theorem Change.monitorLaw {s t : State} (h : Change s t) (hp : s.PoolLaw) (hl : s.MoveLaw) (hs : s.MonitorLaw) :
    t.MonitorLaw := by
  cases h with
  | adjusts h => exact h.monitors hp hl hs
  | ends e i => exact monitorLaw_endOrder e i hs
  | walks hb h =>
    cases h with
    | endsAtStart i o e => exact monitorLaw_endOrder e i hs
    | fenceEnds i o => exact monitorLaw_endOrder .done i hs
    | starts i o hq =>
      obtain ⟨u, h1, h2⟩ := startMove_adjusts s i o
      have hl1 : (s.startClaims i o).MoveLaw :=
        moveLaw_of_slot hl (moveHas_startClaims (enterDrive_lawful (newMove_clean s o)).2 i)
      have hp1 := poolLaw_startClaims hq hp
      exact h2.monitors (poolLaw_adjust h1 hp1) (moveLaw_adjust h1 hl1)
        (h1.monitors hp1 hl1 (monitorLaw_startClaims hb hq hs))
    | fenceWaits i o hq =>
      refine monitorLaw_of_slot (s := s) (t := s.setSlot i _) rfl hs (moveHas_wait s i o _ _) fun hr => ?_
      rw [hs.2 hr i] at hq
      cases hq
  | pops =>
    have hm : s.pop.monitors = s.monitors := by
      obtain h | ⟨i, rest, -, h⟩ := pop_cases s <;> rw [h]
      rfl
    refine monitorLaw_of_slot hm hs (moveHas_pop s _) fun hr j => ?_
    obtain h | ⟨i, rest, -, h⟩ := pop_cases s
    · rw [h]; exact hs.2 hr j
    · rw [h, slot_removeHead, hs.2 hr j, ite_self]
  | configures => exact hs
  | latches k => exact hs
  | motionReset => exact ⟨fun i => by rw [cmdMotionReset_slot]; rfl, fun _ => cmdMotionReset_slot s⟩
  | fullReset => exact ⟨fun i => by rw [slot_fullReset]; rfl, fun _ => slot_fullReset s⟩

theorem monitorLaw_accept {s : State} {i : SlotNo} (o : Order) (hl : s.inReset = false) (hs : s.MonitorLaw) :
    (s.accept i o).MonitorLaw :=
  monitorLaw_of_slot (s := s) (t := s.accept i o) rfl hs (moveHas_accept s i o _) fun hr => by rw [hl] at hr; cases hr

theorem Course.monitorLaw {s t : State} {b : Bool} (h : Course s b t) (hp : s.PoolLaw) (hl : s.MoveLaw)
    (hs : s.MonitorLaw) : t.MonitorLaw :=
  (h.keeps (P := fun u => u.PoolLaw ∧ u.MoveLaw ∧ u.MonitorLaw)
    (fun _ _ hu hc => ⟨hc.poolLaw hu.1, hc.moveLaw hu.2.1, hc.monitorLaw hu.1 hu.2.1 hu.2.2⟩)
    (fun u i o hu _ ht _ _ hr => ⟨poolLaw_accept o ht hu.1, moveLaw_of_slot hu.2.1 (moveHas_accept u i o _),
      monitorLaw_accept o hr hu.2.2⟩) ⟨hp, hl, hs⟩).2.2

/-! ### The grant (R78) -/

theorem grantLaw_adjust {s t : State} (h : s.Adjust t) (hs : s.GrantLaw) : t.GrantLaw := by
  intro i
  rw [h.grant, (h.slots i).sameOrder.holdsGrant]
  exact hs i

theorem grantLaw_of {s t : State} (hs : s.GrantLaw) (hg : t.grant = s.grant)
    (h : ∀ i, (t.slot i).holdsGrant = (s.slot i).holdsGrant) : t.GrantLaw := by
  intro i
  rw [hg, h]
  exact hs i

theorem grantLaw_endOrder {s : State} (e : Ending) (i : SlotNo) (hs : s.GrantLaw) : (s.endOrder e i).GrantLaw := by
  intro j
  rw [grant_endOrder, slot_endOrder]
  have hended : ((s.slot i).ended s e).holdsGrant = false := (ended_facts s e _).2.2.2.2.1
  have hmove : s.grant = some i → (s.slot i).move.isSome = true := fun hg => by
    have := (hs i).1 hg
    cases hx : s.slot i <;> simp_all [SlotState.holdsGrant, SlotState.move]
  by_cases hg : s.grant = some i
  · rw [if_pos ⟨hmove hg, hg⟩]
    by_cases hij : i = j
    · simp [if_pos hij, hended]
    · have hj : (s.slot j).holdsGrant = false := by
        by_contra hj
        have := (hs j).2 (by simpa using hj)
        rw [hg] at this
        exact hij (Option.some.inj this)
      simp [hij, hj]
  · rw [if_neg fun h => hg h.2]
    by_cases hij : i = j
    · subst hij
      simpa [hended] using hg
    · simpa [hij] using hs j

theorem grantLaw_startClaims {s : State} {i : SlotNo} {o : Order} (hq : s.slot i = .queued o)
    (ht : s.compatible i o = true) (hs : s.GrantLaw) : (s.startClaims i o).GrantLaw := by
  have hext : s.extTest o = true := by
    simp only [State.compatible, Bool.and_eq_true] at ht
    exact ht.2
  intro j
  obtain ⟨-, -, hg, -⟩ := lists_startClaims s i o
  rw [hg, slot_startClaims]
  have hj := hs j
  have hnew : (s.enterDrive o (s.newMove o)).extHeld = o.ext := (enterDrive_keeps s o _).2
  cases ho : o.ext with
  | false =>
    by_cases hij : i = j
    · subst hij
      rw [hq] at hj
      simpa [SlotState.holdsGrant, SlotState.move, hnew, ho] using hj
    · simpa [hij] using hj
  | true =>
    rw [State.extTest, ho, Bool.not_true, Bool.false_or, Option.isNone_iff_eq_none] at hext
    by_cases hij : i = j
    · simp [hij, SlotState.holdsGrant, SlotState.move, hnew, ho]
    · rw [hext] at hj
      simpa [hij] using hj

theorem holdsGrant_done {x : SlotState} (h : x.isDone = true) : x.holdsGrant = false := by
  cases x with
  | done _ => rfl
  | _ => cases h

theorem Change.grantLaw {s t : State} (h : Change s t) (hp : s.PoolLaw) (hs : s.GrantLaw) : t.GrantLaw := by
  cases h with
  | adjusts h => exact grantLaw_adjust h hs
  | ends e i => exact grantLaw_endOrder e i hs
  | walks _ h =>
    cases h with
    | endsAtStart i o e => exact grantLaw_endOrder e i hs
    | fenceEnds i o => exact grantLaw_endOrder .done i hs
    | starts i o hq _ _ _ ht =>
      obtain ⟨u, h1, h2⟩ := startMove_adjusts s i o
      exact grantLaw_adjust h2 (grantLaw_adjust h1 (grantLaw_startClaims hq ht hs))
    | fenceWaits i o hq =>
      refine grantLaw_of hs rfl fun j => ?_
      rw [slot_setSlot]
      split
      · next hij => rw [← hij, hq]; rfl
      · rfl
  | pops =>
    obtain h | ⟨i, rest, hc, h⟩ := pop_cases s
    · rwa [h]
    · rw [h]
      refine grantLaw_of hs rfl fun j => ?_
      rw [slot_removeHead]
      split
      · next hij => rw [← hij, holdsGrant_done (isDone_head hp hc)]; rfl
      · rfl
  | configures => exact hs
  | latches k => exact hs
  | motionReset =>
    intro i
    rw [cmdMotionReset_slot, (lists_cmdMotionReset s).2.2]
    simp [SlotState.holdsGrant, SlotState.move]
  | fullReset =>
    intro i
    rw [slot_fullReset]
    simp [SlotState.holdsGrant, SlotState.move, State.fullReset, State.reset]

theorem Course.grantLaw {s t : State} {b : Bool} (h : Course s b t) (hp : s.PoolLaw) (hs : s.GrantLaw) : t.GrantLaw :=
  (h.keeps (P := fun u => u.PoolLaw ∧ u.GrantLaw) (fun _ _ hu hc => ⟨hc.poolLaw hu.1, hc.grantLaw hu.1 hu.2⟩)
    (fun u i o hu _ ht _ _ _ => ⟨poolLaw_accept o ht hu.1, grantLaw_of (t := u.accept i o) hu.2 rfl fun j => by
      rw [slot_accept]
      split
      · next hij => rw [← hij, ht]; rfl
      · rfl⟩) ⟨hp, hs⟩).2

/-! ### The monitors' levels, the stored values, disabled entries (R137, R157, R177, R18) -/

theorem Change.thermalLaw {s t : State} (h : Change s t) (hs : s.ThermalLaw) : t.ThermalLaw := by
  cases h with
  | adjusts h => exact h.thermal hs
  | ends e i => exact thermalLaw_congr (monitors_of_sameOutside (sameOutside_endOrder s e i)) hs
  | walks _ h => exact thermalLaw_congr (monitors_of_sameOutside h.sameOutside) hs
  | pops =>
    obtain h | ⟨i, rest, -, h⟩ := pop_cases s
    · rwa [h]
    · rw [h]; exact hs
  | configures => exact hs
  | latches k => exact hs
  | motionReset =>
    refine thermalLaw_congr (s := s) ?_ hs
    simp only [State.monitors, State.cmdMotionReset, State.resultCount, setFlagIf_eq, mapLegs_inReset, mapActs_inReset,
      mapLegs_holdOn, mapActs_holdOn, mapLegs_supply, mapActs_supply, mapLegs_thermal, mapActs_thermal, mapLegs_warnSet,
      mapActs_warnSet, mapLegs_shutdownSet, mapActs_shutdownSet]
  | fullReset => exact ⟨rfl, rfl⟩

theorem Course.thermalLaw {s t : State} {b : Bool} (h : Course s b t) (hs : s.ThermalLaw) : t.ThermalLaw :=
  h.keeps (fun _ _ hu hc => hc.thermalLaw hu) (fun _ _ _ hu _ _ _ _ _ => hu) hs

theorem storeLaw_endOrder {s : State} (e : Ending) (i : SlotNo) (hs : s.StoreLaw) : (s.endOrder e i).StoreLaw :=
  storeLaw_congr (stored_of_sameOutside (sameOutside_endOrder s e i) (flags_endOrder s e i)) hs

theorem storeLaw_reset : State.reset.StoreLaw := by
  refine ⟨rfl, ?_, rfl, rfl⟩
  decide

theorem Change.storeLaw {s t : State} (h : Change s t) (hs : s.StoreLaw) : t.StoreLaw := by
  cases h with
  | adjusts h => exact h.store hs
  | ends e i => exact storeLaw_endOrder e i hs
  | walks _ h =>
    cases h with
    | endsAtStart i o e => exact storeLaw_endOrder e i hs
    | fenceEnds i o => exact storeLaw_endOrder .done i hs
    | starts i o =>
      obtain ⟨u, h1, h2⟩ := startMove_adjusts s i o
      exact h2.store (h1.store (storeLaw_congr (stored_of_sameOutside (sameOutside_startClaims s i o)
        (lists_startClaims s i o).2.2.2) hs))
    | fenceWaits i o => exact hs
  | pops =>
    obtain h | ⟨i, rest, -, h⟩ := pop_cases s
    · rwa [h]
    · rw [h]; exact hs
  | configures => exact hs
  | latches k => exact hs
  | motionReset =>
    have hmap : (((s.mapActs fun _ e => e.cutOff).mapLegs fun _ l => l.cutOff) : State).StoreLaw := by
      refine storeLaw_congr (s := s) ?_ hs
      simp only [State.stored, mapLegs_settings, mapActs_settings, mapLegs_speeds, mapActs_speeds, mapLegs_flags,
        mapActs_flags, mapLegs_mask, mapActs_mask]
    exact storeLaw_congr (s := State.setFlagIf
      { ((s.mapActs fun _ e => e.cutOff).mapLegs fun _ l => l.cutOff) with
        slots := Vector.replicate 16 .free, acceptance := [], completion := [], grant := none, running := false }
      ((List.finRange 8).any fun a => (s.act a).losesByReset) .positionLost) rfl (storeLaw_setFlagIf _ _ hmap)
  | fullReset => exact storeLaw_congr (s := State.reset) rfl storeLaw_reset

theorem Course.storeLaw {s t : State} {b : Bool} (h : Course s b t) (hs : s.StoreLaw) : t.StoreLaw :=
  h.keeps (fun _ _ hu hc => hc.storeLaw hu) (fun _ _ _ hu _ _ _ _ _ => hu) hs

theorem disabledLaw_of {s t : State} (hs : s.DisabledLaw) (hc : ∀ a, (t.act a).config = (s.act a).config)
    (hv : ∀ a, (s.act a).valid = false → (t.act a).valid = false) : t.DisabledLaw := fun a ha =>
  hv a (hs a (hc a ▸ ha))

theorem disabledLaw_endOrder {s : State} (e : Ending) (i : SlotNo) (hs : s.DisabledLaw) :
    (s.endOrder e i).DisabledLaw := by
  refine disabledLaw_of hs (config_endOrder s e i) fun a ha => ?_
  rw [act_endOrder]
  split <;> exact ha

theorem disabledLaw_startClaims {s : State} (i : SlotNo) (o : Order) (hs : s.DisabledLaw) :
    (s.startClaims i o).DisabledLaw := by
  refine disabledLaw_of hs (config_startClaims s i o) fun a ha => ?_
  rw [act_startClaims]
  split <;> exact ha

/-- A page that keeps ENABLE keeps a disabled entry UNKNOWN, and one that changes it makes the entry UNKNOWN (R12). -/
theorem applyPage_disabled {e : Actuator} {c : ActConfig} (h : e.config.enabled = false → e.valid = false)
    (hc : c.enabled = false) : (e.applyPage c).valid = false := by
  unfold Actuator.applyPage
  split
  · rfl
  · next hr =>
    refine h ?_
    simp only [rewired, Bool.or_eq_true, not_or, bne_iff_ne, not_not] at hr
    rwa [ActConfig.enabled, hr.2]

theorem Change.disabledLaw {s t : State} (h : Change s t) (hw : s.WiringLaw) (hs : s.DisabledLaw) :
    t.DisabledLaw := by
  cases h with
  | adjusts h => exact h.disabled hw hs
  | ends e i => exact disabledLaw_endOrder e i hs
  | walks _ h =>
    cases h with
    | endsAtStart i o e => exact disabledLaw_endOrder e i hs
    | fenceEnds i o => exact disabledLaw_endOrder .done i hs
    | starts i o hq =>
      obtain ⟨u, h1, h2⟩ := startMove_adjusts s i o
      have hw1 : (s.startClaims i o).WiringLaw := wiringLaw_of hw (config_startClaims s i o) fun j a hj => by
        rw [slot_startClaims] at hj
        split at hj
        · next hij => rw [← hij, hq]; exact hj
        · exact hj
      exact h2.disabled (wiringLaw_adjust h1 hw1) (h1.disabled hw1 (disabledLaw_startClaims i o hs))
    | fenceWaits i o => exact hs
  | pops =>
    obtain h | ⟨i, rest, -, h⟩ := pop_cases s
    · rwa [h]
    · rw [h]; exact hs
  | configures =>
    intro a ha
    rw [act_setAct] at ha ⊢
    split at ha
    · next hsel =>
      rw [config_applyPage] at ha
      rw [if_pos hsel]
      exact applyPage_disabled (hs s.actSel) ha
    · next hsel =>
      rw [if_neg hsel]
      exact hs a ha
  | latches k => exact hs
  | motionReset =>
    intro a ha
    rw [act_cmdMotionReset] at ha ⊢
    have hv := hs a ha
    simp [Actuator.cutOff, hv]
  | fullReset => exact fun a _ => by rw [act_fullReset]; rfl

theorem Course.disabledLaw {s t : State} {b : Bool} (h : Course s b t) (hw : s.WiringLaw) (hs : s.DisabledLaw) :
    t.DisabledLaw :=
  (h.keeps (P := fun u => u.WiringLaw ∧ u.DisabledLaw) (fun _ _ hu hc => ⟨hc.wiringLaw hu.1, hc.disabledLaw hu.1 hu.2⟩)
    (fun _ _ _ hu _ _ hk _ _ => ⟨wiringLaw_accept hk hu.1, hu.2⟩) ⟨hw, hs⟩).2

/-! ### The orders' numbers (R44) -/

theorem serialLaw_of {s t : State} (hs : s.SerialLaw) (hn : t.serial = s.serial)
    (h : ∀ i, (t.slot i).number = (s.slot i).number ∨ (t.slot i).number = none) : t.SerialLaw := by
  refine ⟨fun i => ?_, fun i j hij hi => ?_⟩
  · rw [hn]
    obtain h | h := h i
    · rw [h]; exact hs.1 i
    · rw [h]; rfl
  · obtain h1 | h1 := h i
    · rw [h1] at hi ⊢
      obtain h2 | h2 := h j
      · rw [h2]; exact hs.2 i j hij hi
      · rw [h2]; exact hi
    · exact absurd h1 hi

theorem serialLaw_endOrder {s : State} (e : Ending) (i : SlotNo) (hs : s.SerialLaw) : (s.endOrder e i).SerialLaw :=
  serialLaw_of hs (sameOutside_endOrder s e i).serial_eq fun j =>
    (slot_endOrder_cases s e i j).imp (fun h => by rw [h]) fun ⟨_, h⟩ => h ▸ (ended_facts s e _).2.2.2.1

theorem serialLaw_adjust {s t : State} (h : s.Adjust t) (hs : s.SerialLaw) : t.SerialLaw :=
  serialLaw_of hs h.serial fun i => .inl (h.slots i).sameOrder.number

theorem number_startClaims {s : State} {i : SlotNo} {o : Order} (hq : s.slot i = .queued o) (j : SlotNo) :
    ((s.startClaims i o).slot j).number = (s.slot j).number := by
  rw [slot_startClaims]
  split
  · next hij => rw [← hij, hq]; rfl
  · rfl

theorem Change.serialLaw {s t : State} (h : Change s t) (hs : s.SerialLaw) : t.SerialLaw := by
  cases h with
  | adjusts h => exact serialLaw_adjust h hs
  | ends e i => exact serialLaw_endOrder e i hs
  | walks _ h =>
    cases h with
    | endsAtStart i o e => exact serialLaw_endOrder e i hs
    | fenceEnds i o => exact serialLaw_endOrder .done i hs
    | starts i o hq =>
      obtain ⟨u, h1, h2⟩ := startMove_adjusts s i o
      exact serialLaw_adjust h2 (serialLaw_adjust h1
        (serialLaw_of hs (sameOutside_startClaims s i o).serial_eq fun j => .inl (number_startClaims hq j)))
    | fenceWaits i o hq =>
      refine serialLaw_of hs rfl fun j => .inl ?_
      rw [slot_setSlot]
      split
      · next hij => rw [← hij, hq]; rfl
      · rfl
  | pops =>
    obtain h | ⟨i, rest, -, h⟩ := pop_cases s
    · rwa [h]
    · rw [h]
      refine serialLaw_of hs rfl fun j => ?_
      rw [slot_removeHead]
      split
      · exact .inr rfl
      · exact .inl rfl
  | configures => exact hs
  | latches k => exact hs
  | motionReset =>
    have hn : s.cmdMotionReset.serial = s.serial := by
      simp only [State.cmdMotionReset, State.resultCount, setFlagIf_eq, mapLegs_serial, mapActs_serial]
    exact serialLaw_of hs hn fun i => .inr (by rw [cmdMotionReset_slot]; rfl)
  | fullReset => exact serialLaw_of (t := s.fullReset) hs rfl fun i => .inr (by rw [slot_fullReset]; rfl)

/-- The accepted order gets a number that no order of the pool has (log 7). -/
theorem serialLaw_accept {s : State} {i : SlotNo} {o : Order} (hn : o.serial = s.serial) (hs : s.SerialLaw) :
    (s.accept i o).SerialLaw := by
  have hlt : ∀ j n, (s.slot j).number = some n → n < s.serial := fun j n hj => by
    have := hs.1 j
    rw [hj] at this
    simpa using this
  have hnum : (SlotState.queued o).number = some s.serial := by rw [← hn]; rfl
  refine ⟨fun j => ?_, fun j l hjl hj => ?_⟩
  · rw [slot_accept]
    show Option.all (fun n => decide (n < s.serial + 1)) _ = true
    split
    · rw [hnum]; simp
    · cases hx : (s.slot j).number with
      | none => rfl
      | some n => simpa using (hlt j n hx).le
  · rw [slot_accept] at hj ⊢
    rw [slot_accept]
    by_cases h1 : i = j
    · have h2 : i ≠ l := fun h2 => hjl (h1.symm.trans h2)
      rw [if_pos h1, if_neg h2, hnum]
      exact fun h => absurd (hlt l _ h.symm) (lt_irrefl _)
    · rw [if_neg h1] at hj ⊢
      by_cases h2 : i = l
      · rw [if_pos h2, hnum]
        exact fun h => absurd (hlt j _ h) (lt_irrefl _)
      · rw [if_neg h2]
        exact hs.2 j l hjl hj

theorem Change.serial_eq {s t : State} (h : Change s t) : t.serial = s.serial := by
  cases h with
  | adjusts h => exact h.serial
  | ends e i => exact (sameOutside_endOrder s e i).serial_eq
  | walks _ h => exact h.sameOutside.serial_eq
  | pops => obtain h | ⟨i, rest, -, h⟩ := pop_cases s <;> rw [h]; rfl
  | configures => rfl
  | latches k => rfl
  | motionReset => simp only [State.cmdMotionReset, State.resultCount, setFlagIf_eq, mapLegs_serial, mapActs_serial]
  | fullReset => rfl

theorem Course.serialLaw {s t : State} {b : Bool} (h : Course s b t) (hs : s.SerialLaw) :
    t.SerialLaw ∧ s.serial ≤ t.serial :=
  h.keeps (P := fun u => u.SerialLaw ∧ s.serial ≤ u.serial)
    (fun _ _ hu hc => ⟨hc.serialLaw hu.1, hc.serial_eq ▸ hu.2⟩)
    (fun _ _ _ hu _ _ _ hn _ => ⟨serialLaw_accept hn hu.1, hu.2.trans (Nat.le_succ _)⟩) ⟨hs, le_rfl⟩

/-! ### The runs of the legs (R32, R149) -/

theorem runsOn_addClaims {s : State} {i : SlotNo} {o : Order} (k : LegNo) :
    (s.leg k).runsOn ((s.startClaims i o).leg k) := by
  rw [leg_startClaims, State.withClaims, leg_addClaim, leg_addClaim]
  split <;> split <;> exact .of_eq rfl rfl

theorem Change.runsOn {s t : State} (h : Change s t) (k : LegNo) : (s.leg k).runsOn (t.leg k) := by
  have hends : ∀ e i, (s.leg k).runsOn ((s.endOrder e i).leg k) := fun e i => by
    rw [leg_endOrder]
    split
    · exact .of_eq rfl rfl
    · exact .refl _
  cases h with
  | adjusts h => exact (h.legs k).run
  | ends e i => exact hends e i
  | walks _ h =>
    cases h with
    | endsAtStart i o e => exact hends e i
    | fenceEnds i o => exact hends .done i
    | starts i o =>
      obtain ⟨u, h1, h2⟩ := startMove_adjusts s i o
      exact ((runsOn_addClaims k).trans (h1.legs k).run).trans (h2.legs k).run
    | fenceWaits i o => exact .refl _
  | pops =>
    obtain h | ⟨i, rest, -, h⟩ := pop_cases s <;> rw [h] <;> exact .refl _
  | configures => exact .refl _
  | latches j =>
    rw [leg_latchOff]
    split
    · next h => exact h ▸ (s.leg j).runsOn_enter .off
    · exact .refl _
  | motionReset =>
    rw [leg_cmdMotionReset]
    exact (s.leg k).runsOn_enter _
  | fullReset =>
    rw [leg_fullReset]
    exact (s.leg k).runsOn_enter .float

theorem Course.runsOn {s t : State} {b : Bool} (h : Course s b t) (k : LegNo) : (s.leg k).runsOn (t.leg k) :=
  h.keeps (P := fun u => (s.leg k).runsOn (u.leg k)) (fun _ _ hu hc => hu.trans (hc.runsOn k))
    (fun _ _ _ hu _ _ _ _ _ => hu) (.refl _)

/-! ### The demand (R25, R26) -/

/-- While the legs have taken their demand since the last change that may have altered one, every leg stands at its
demand. -/
theorem Course.demandLaw {s t : State} {b : Bool} (h : Course s b t) (hp : s.PoolLaw) (ho : s.OffLaw)
    (hs : s.DemandLaw) (hb : b = true) : t.DemandLaw := by
  induction h with
  | refl => exact hs
  | change => cases hb
  | quiet h _ hq ih => exact hq (h.poolLaw hp) (h.offLaw ho) (ih hb)
  | @settle b t h => exact settle_demandLaw t
  | @accept b t i o h _ ht _ _ _ ih =>
    intro k
    rw [demand_congr t (t.accept i o) k rfl fun j => ?_]
    · exact ih hb k
    · rw [slot_accept]
      split
      · next hij => rw [← hij, ht]; rfl
      · rfl

/-! ### Completion records (R52) -/

theorem Change.done {s t : State} (h : Change s t) {i : SlotNo} {r : Record}
    (hs : s.slot i = .done r ∨ s.slot i = .free) : t.slot i = .done r ∨ t.slot i = .free := by
  have hgo : ∀ {x y : SlotState}, x.GoesOn Move.goesOn y → x = .done r ∨ x = .free → y = .done r ∨ y = .free := by
    intro x y hxy hx
    cases hxy with
    | free => exact .inr rfl
    | done q => exact hx
    | _ => simp at hx
  have hends : ∀ e j, (s.endOrder e j).slot i = .done r ∨ (s.endOrder e j).slot i = .free := fun e j => by
    rw [slot_endOrder]
    split
    · next hji =>
      rw [hji]
      obtain h | h := hs
      · rw [h]; exact .inl rfl
      · rw [h]; exact .inr rfl
    · exact hs
  have hqueued : ∀ {j : SlotNo} {o : Order}, s.slot j = .queued o → j ≠ i := fun hq hji => by
    rw [← hji, hq] at hs
    simp at hs
  cases h with
  | adjusts h => exact hgo (h.slots i) hs
  | ends e j => exact hends e j
  | walks _ h =>
    cases h with
    | endsAtStart j o e => exact hends e j
    | fenceEnds j o => exact hends .done j
    | starts j o hq =>
      obtain ⟨u, h1, h2⟩ := startMove_adjusts s j o
      refine hgo (h2.slots i) (hgo (h1.slots i) ?_)
      rwa [slot_startClaims, if_neg (hqueued hq)]
    | fenceWaits j o hq => rwa [slot_setSlot, if_neg (hqueued hq)]
  | pops =>
    obtain h | ⟨j, rest, -, h⟩ := pop_cases s
    · rwa [h]
    · rw [h, slot_removeHead]
      split
      · exact .inr rfl
      · exact hs
  | configures => exact hs
  | latches k => exact hs
  | motionReset => exact .inr (cmdMotionReset_slot s i)
  | fullReset => exact .inr (slot_fullReset s i)

/-- A record stays until its slot is FREE (R52). -/
theorem Course.done {s t : State} {b : Bool} (h : Course s b t) {i : SlotNo} {r : Record} (hs : s.slot i = .done r) :
    t.slot i = .done r ∨ t.slot i = .free :=
  h.keeps (P := fun u => u.slot i = .done r ∨ u.slot i = .free) (fun _ _ hu hc => hc.done hu)
    (fun u j o hu hj _ _ _ _ => by
      have hji : j ≠ i := fun hji => by rw [hji, hs] at hj; cases hj
      rwa [slot_accept, if_neg hji]) (.inl hs)

end Sys2Proof.Machine
end

section
/-! PROOF. The course of a step through the shared operations: registers, flags, the moves, the endings, the passes, and what each asks of the state. -/

namespace Sys2Proof.Machine

/-! ### Changes that leave every demand (R25) -/

theorem quiet_of_slots {s t : State} (hl : ∀ k, t.leg k = s.leg k) (hm : ∀ i, (t.slot i).move = (s.slot i).move) :
    s.quiet t := by
  intro _ _ hs k
  rw [demand_congr s t k (by rw [hl]) hm, hl]
  exact hs k

theorem quiet_of_pool {s t : State} (h : t.pool = s.pool) : s.quiet t :=
  quiet_of_slots (leg_of_pool h) fun i => by rw [slot_of_pool h]

/-- What a move asks of its DRIVE leg (R25). -/
def Move.asks (m : Move) : Phase × Bool × Byte := (m.phase, m.extHeld, m.duty)

theorem driveDemand_congr {m n : Move} (h : n.asks = m.asks) : driveDemand n = driveDemand m := by
  simp only [Move.asks, Prod.mk.injEq] at h
  obtain ⟨hp, he, hd⟩ := h
  simp only [driveDemand, hp, he, hd]

theorem demand_asks {s t : State} {k : LegNo} (hc : (t.leg k).claims = (s.leg k).claims)
    (hs : ∀ i, (t.slot i).move.map Move.asks = (s.slot i).move.map Move.asks) : t.demand k = s.demand k := by
  have hk : t.keepsLow = s.keepsLow := by
    funext c
    have h := hs c.slot
    simp only [State.keepsLow, SlotState.inPhase]
    cases h1 : (t.slot c.slot).move <;> cases h2 : (s.slot c.slot).move <;>
      simp_all [Move.asks]
  have hd : ∀ i, (match (t.slot i).move with | some m => driveDemand m | none => Demand.float) =
      match (s.slot i).move with | some m => driveDemand m | none => Demand.float := by
    intro i
    have h := hs i
    cases h1 : (t.slot i).move <;> cases h2 : (s.slot i).move <;> simp_all
    exact driveDemand_congr h
  simp only [State.demand, hc, hk]
  split
  · exact hd _
  · rfl

theorem quiet_endOrder {s : State} {i : SlotNo} {o : Order} (e : Ending) (hq : s.slot i = .queued o) :
    s.quiet (s.endOrder e i) := by
  refine quiet_of_slots (fun k => ?_) fun j => ?_
  · rw [leg_endOrder, hq]; rfl
  · rw [slot_endOrder]
    split
    · next hij => rw [← hij, hq]; rfl
    · rfl

theorem WalkStep.quiet {s t : State} (h : WalkStep s t) : s.quiet t := by
  cases h with
  | endsAtStart i o e hq => exact quiet_endOrder e hq
  | fenceEnds i o hq => exact quiet_endOrder .done hq
  | starts i o => exact fun _ _ _ => settle_demandLaw _
  | fenceWaits i o hq =>
    refine quiet_of_slots (fun _ => rfl) fun j => ?_
    rw [slot_setSlot]
    split
    · next hij => rw [← hij, hq]; rfl
    · rfl

/-! ### Moves that may follow one another (R86, R112, R117) -/

theorem clean_of_driving {m : Move} (hd : m.phase.driving = true) (hl : m.lawful = true) :
    m.clean ∧ m.window.isSome = true := by
  revert hl
  cases hp : m.phase <;> simp_all [Move.lawful, Move.clean, Phase.driving]

/-- A driving move is allowed where passes are, whether or not the dispatcher is in RUN (R112, R118, R136). -/
theorem allows_driving {s : State} {m : Move} (hd : m.phase.driving = true) :
    s.allows m = true ↔ s.holdOn = false ∧ s.supply = .inRange ∧ s.thermal ≠ .shutdown ∧ s.thermal ≠ .cooled := by
  have h1 : m.phase ≠ .suspended := fun h => by rw [h] at hd; cases hd
  have h2 : m.fitsHold s.holdOn = !s.holdOn := by
    cases hp : m.phase <;> simp_all [Move.fitsHold, Phase.driving]
  simp [State.allows, h2, h1, and_assoc]

theorem allows_of_driving {s : State} {m n : Move} (hd : m.phase.driving = true) (hm : s.allows m = true)
    (hn : n.phase.driving = true ∨ n.phase = .braking) : s.allows n = true := by
  obtain hn | hn := hn
  · exact (allows_driving hn).2 ((allows_driving hd).1 hm)
  · obtain ⟨-, h2, h3, h4⟩ := (allows_driving hd).1 hm
    simp [State.allows, Move.fitsHold, hn, h2, h3, h4]

theorem brake_lawful (s : State) (e : Ending) {m : Move} (hs : m.suspendTimer = none) (hp : m.holdPending = false) :
    (s.brake e m).lawful = true := by
  simp [State.brake, Move.lawful, hs, hp]

theorem admits_brake {s : State} (u : State) (e : Ending) {m : Move} (hd : m.phase.driving = true) :
    s.admits m (u.brake e m) := by
  refine ⟨⟨rfl, rfl, fun hl => ?_⟩, fun _ ha => allows_of_driving hd ha (.inr rfl)⟩
  obtain ⟨⟨-, -, hs, hp⟩, -⟩ := clean_of_driving hd hl
  exact brake_lawful u e hs hp

theorem admits_timeOut {s : State} (u : State) (o : Order) {m : Move} (hd : m.phase.driving = true) :
    s.admits m (u.timeOut o m) :=
  admits_brake (s := s) u .timeout hd

theorem admits_setDuty {s : State} (u : State) (m : Move) : s.admits m (u.setDuty m) := by
  obtain ⟨d, hd⟩ := setDuty_eq u m
  rw [hd]
  exact ⟨⟨rfl, rfl, id⟩, fun _ => id⟩

theorem admits_coastPulse {s : State} (m : Move) : s.admits m m.coastPulse := ⟨⟨rfl, rfl, id⟩, fun _ => id⟩

theorem admits_drivenPulse {s : State} (u : State) (o : Order) {m : Move} (hd : m.phase.driving = true) :
    s.admits m (u.drivenPulse o m) := by
  have hfirst : ∀ n : Move, n = { m with driven := raiseHalf m.driven, firstSeen := true }.startWindow
      (tenMs (u.config o).stallWin.toNat) → s.admits m (if n.reached (u.position o) then u.brake .done n
        else if n.extHeld = false ∧ (m.phase = .starting ∨ m.phase = .running) ∧
            n.inZone (u.config o).approach (u.position o) then u.setDuty n.approachNow
        else n) := by
    rintro n rfl
    split
    · refine ⟨⟨rfl, rfl, fun hl => ?_⟩, fun _ ha => allows_of_driving hd ha (.inr rfl)⟩
      obtain ⟨⟨-, -, hs, hp⟩, -⟩ := clean_of_driving hd hl
      exact brake_lawful u .done hs hp
    · split
      · next hz =>
        refine ⟨⟨(setDuty_keeps u _).1, (setDuty_keeps u _).2, fun hl => ?_⟩, fun _ ha =>
          allows_of_driving hd ha (.inl (by rw [setDuty_phase]; rfl))⟩
        obtain ⟨⟨h1, h2, h3, h4⟩, -⟩ := clean_of_driving hd hl
        have hext : m.extHeld = false := hz.1
        rw [setDuty_lawful]
        simp [Move.lawful, Move.approachNow, Move.startWindow, h1, h2, h3, h4, hext]
      · refine ⟨⟨rfl, rfl, fun hl => ?_⟩, fun _ ha => allows_of_driving hd ha (.inl hd)⟩
        revert hl
        cases hp : m.phase <;> simp_all [Move.lawful, Move.startWindow, Phase.driving]
  exact hfirst _ rfl

theorem admits_ramp {s : State} (u : State) {m : Move} (hp : m.phase = .starting) (hext : m.extHeld = false) :
    s.admits m (u.ramp m) := by
  have hd : m.phase.driving = true := by rw [hp]; rfl
  unfold State.ramp
  split
  · refine ⟨⟨(setDuty_keeps u _).1, (setDuty_keeps u _).2, fun hl => ?_⟩, fun _ ha =>
      allows_of_driving hd ha (.inl (by rw [setDuty_phase]; rfl))⟩
    obtain ⟨⟨h1, h2, h3, h4⟩, hw⟩ := clean_of_driving hd hl
    rw [setDuty_lawful]
    simp [Move.lawful, h1, h2, h3, h4, hw]
  · refine ⟨⟨(setDuty_keeps u _).1, (setDuty_keeps u _).2, fun hl => ?_⟩, fun _ ha =>
      allows_of_driving hd ha (.inl (by rw [setDuty_phase]; exact hd))⟩
    obtain ⟨⟨h1, h2, h3, h4⟩, hw⟩ := clean_of_driving hd hl
    rw [setDuty_lawful]
    simp [Move.lawful, State.startRamp, hp, h1, h2, h3, h4, hw, hext]

/-- A move that returns to driving is clean: it brakes with DONE or drives (R89). -/
theorem reenter_goesOn {u : State} {o : Order} {m : Move} (h : m.lawful = true → m.clean) :
    m.goesOn (u.reenter o m) := by
  unfold State.reenter
  split
  · exact ⟨rfl, rfl, fun hl => brake_lawful u .done (h hl).2.2.1 (h hl).2.2.2⟩
  · exact ⟨(enterDrive_keeps u o m).1, (enterDrive_keeps u o m).2, fun hl => (enterDrive_lawful (h hl)).2⟩

theorem enterDrive_driving (s : State) (o : Order) (m : Move) : (s.enterDrive o m).phase.driving = true := by
  unfold State.enterDrive
  split
  · rw [setDuty_phase]; rfl
  · dsimp only
    rw [setDuty_phase]
    unfold State.rampFrom
    split <;> split <;> rfl

theorem reenter_phase (u : State) (o : Order) (m : Move) :
    (u.reenter o m).phase.driving = true ∨ (u.reenter o m).phase = .braking := by
  unfold State.reenter
  split
  · exact .inr rfl
  · exact .inl (enterDrive_driving u o m)

/-- Where the supply is IN, nothing is hot and the hold line is released, a driving or a BRAKING move is allowed. -/
theorem allows_of_released {s : State} {n : Move} (hh : s.holdOn = false) (hs : s.supply = .inRange)
    (h1 : s.thermal ≠ .shutdown) (h2 : s.thermal ≠ .cooled) (hn : n.phase.driving = true ∨ n.phase = .braking) :
    s.allows n = true := by
  obtain hn | hn := hn
  · exact (allows_driving hn).2 ⟨hh, hs, h1, h2⟩
  · simp [State.allows, Move.fitsHold, hn, hs, h1, h2]

theorem admits_resumeMove {s : State} (u : State) (o : Order) {m : Move} (hs : s.supply = .inRange)
    (hp : m.phase = .suspended) : s.admits m (u.resumeMove o m) := by
  have hlaw : m.lawful = true → m.outcome = none ∧ m.brakeTimer = none ∧ m.window = none ∧ m.rampTimer = none := by
    simp only [Move.lawful, hp, Bool.and_eq_true, Option.isNone_iff_eq_none, and_assoc]
    exact id
  have hallow : s.allows m = true → m.holdPending = s.holdOn ∧ s.thermal ≠ .shutdown ∧ s.thermal ≠ .cooled := by
    simp only [State.allows, Move.fitsHold, hp, hs, Bool.and_eq_true, beq_iff_eq, bne_iff_ne]
    exact fun h => ⟨h.1.1.1, h.1.2, h.2⟩
  unfold State.resumeMove
  dsimp only
  split
  · next hpend =>
    refine ⟨⟨rfl, rfl, fun hl => ?_⟩, fun _ ha => ?_⟩
    · obtain ⟨h1, h2, h3, h4⟩ := hlaw hl
      simp [Move.lawful, h1, h2, h3, h4]
    · obtain ⟨h1, h2, h3⟩ := hallow ha
      simp [State.allows, Move.fitsHold, ← h1, hpend, hs, h2, h3]
  · next hpend =>
    have hpend : m.holdPending = false := by simpa using hpend
    have hclean : m.lawful = true → Move.clean { m with suspendTimer := none } := fun hl => by
      obtain ⟨h1, h2, -, -⟩ := hlaw hl
      exact ⟨h1, h2, rfl, hpend⟩
    have hgo : Move.goesOn { m with suspendTimer := none } (u.reenter o { m with suspendTimer := none }) :=
      reenter_goesOn fun hl => hclean (by simpa [Move.lawful, hp] using hl)
    refine ⟨⟨hgo.1, hgo.2.1, fun hl => hgo.2.2 (by simpa [Move.lawful, hp] using hl)⟩, fun _ ha => ?_⟩
    obtain ⟨h1, h2, h3⟩ := hallow ha
    exact allows_of_released (h1 ▸ hpend) hs h2 h3 (reenter_phase u o _)

theorem admits_tick {s : State} (m : Move) : s.admits m m.tick := by
  have hphase : m.tick.phase = m.phase ∧ m.tick.holdPending = m.holdPending ∧ m.tick.dir = m.dir ∧
      m.tick.extHeld = m.extHeld := by
    unfold Move.tick
    split <;> exact ⟨rfl, rfl, rfl, rfl⟩
  obtain ⟨hp, hh, hdir, hext⟩ := hphase
  refine ⟨⟨hdir, hext, fun hl => ?_⟩, fun _ ha => ?_⟩
  · revert hl
    cases hm : m.phase <;> simp_all [Move.lawful, Move.tick, countDown]
  · simpa only [State.allows, Move.fitsHold, hp, hh] using ha

theorem tick_asks (m : Move) : m.tick.asks = m.asks := by
  unfold Move.tick
  split <;> rfl

/-! ### The course through the shared operations -/

namespace Course

variable {s t u : State} {b : Bool}

theorem registers (h : Course s b t) (hp : u.pool = t.pool) (hm : u.monitors = t.monitors)
    (hs : t.StoreLaw → u.StoreLaw) : Course s b u :=
  h.quiet (.adjusts (.of_registers hp hm hs)) (quiet_of_pool hp)

/-- Fields change that no law speaks of. -/
theorem same (h : Course s b t) (hp : u.pool = t.pool) (hm : u.monitors = t.monitors) (hs : u.stored = t.stored) :
    Course s b u :=
  h.registers hp hm (storeLaw_congr hs)

theorem setFlag (f : Flag) (h : Course s b t) : Course s b (t.setFlag f) :=
  h.registers rfl rfl (storeLaw_setFlag f)

theorem setFlagIf (c : Bool) (f : Flag) (h : Course s b t) : Course s b (t.setFlagIf c f) := by
  cases c with
  | false => exact h
  | true => exact h.setFlag f

theorem result (r : CmdResult) (h : Course s b t) : Course s b (t.result r) := h.same rfl rfl rfl

theorem resultCount (n : Nat) (h : Course s b t) : Course s b (t.resultCount n) := h.same rfl rfl rfl

theorem advance (h : Course s b t) : Course s b t.advance := by
  unfold State.advance
  split
  · exact h.same rfl rfl rfl
  · exact h.same rfl rfl rfl
  all_goals exact h

/-- Legs may be found away from their demand. -/
theorem unsettled (h : Course s b t) : Course s false t :=
  h.change (.adjusts (.of_registers rfl rfl id))

theorem onMoves {f : Order → Move → Move} (h : Course s b t) (hf : ∀ o m, t.admits m (f o m)) :
    Course s false (t.onMoves f) := by
  refine h.change (.adjusts (.of_slots (by simp only [State.onMoves, State.mapSlots]) fun i => ?_))
  rw [slot_onMoves]
  exact .mapMove (.refl t) fun o m _ => hf o m

theorem adjust_onMove {f : Order → Move → Move} {i : SlotNo}
    (hf : ∀ o m, t.slot i = .active o m → t.admits m (f o m)) : t.Adjust (t.onMove i f) := by
  refine .of_slots (by simp only [State.onMove, State.setSlot]) fun j => ?_
  rw [slot_onMove]
  split
  · next hij => exact .mapMove (.refl t) fun o m hx => hf o m (hij ▸ hx)
  · exact .of_eq (.refl t) rfl

theorem onMove {f : Order → Move → Move} {i : SlotNo} (h : Course s b t)
    (hf : ∀ o m, t.slot i = .active o m → t.admits m (f o m)) : Course s false (t.onMove i f) :=
  h.change (.adjusts (adjust_onMove hf))

theorem setActive {i : SlotNo} {o : Order} {m n : Move} (h : Course s b t) (hx : t.slot i = .active o m)
    (hn : t.admits m n) : Course s false (t.setSlot i (.active o n)) := by
  refine h.change (.adjusts (.of_slots (by simp only [State.setSlot]) fun j => ?_))
  rw [slot_setSlot]
  split
  · next hij =>
    rw [← hij, hx]
    exact .active o m n hn
  · exact .of_eq (.refl t) rfl

theorem endOrder (e : Ending) (i : SlotNo) (h : Course s b t) : Course s false (t.endOrder e i) :=
  h.change (.ends t e i)

theorem foldl {α : Type} {f : State → α → State} (hf : ∀ (u : State) (x : α), Course s false u → Course s false (f u x))
    (l : List α) (h : Course s false t) : Course s false (l.foldl f t) := by
  induction l generalizing t with
  | nil => exact h
  | cons x l ih => exact ih (hf t x h)

theorem endOrders (e : Ending) (is : List SlotNo) (h : Course s b t) : Course s false (t.endOrders e is) :=
  foldl (fun _ i hu => hu.endOrder e i) is h.unsettled

theorem endBraked (i : SlotNo) (h : Course s b t) : Course s false (t.endBraked i) := by
  unfold State.endBraked
  split
  · split
    · split
      · exact h.endOrder _ i
      · exact h.unsettled
    · exact h.unsettled
  · exact h.unsettled

theorem brakeMoves (e : Ending) (is : List SlotNo) (h : Course s b t) : Course s false (t.brakeMoves e is) := by
  refine foldl (fun u i hu => hu.onMove fun o m _ => ?_) is h.unsettled
  split
  · next hd => exact admits_brake u e hd
  · exact .refl u m

theorem withdraw (e : Ending) (is : List SlotNo) (h : Course s b t) : Course s true (t.withdraw e is) :=
  ((h.brakeMoves e _).endOrders e _).settle

theorem dispatch (h : Course s b t) : Course s b t.dispatch :=
  dispatch_induct (Course s b) t h fun _ _ hu hb hw => hu.quiet (.walks hb hw) hw.quiet

theorem dispatchIfEnded (before : State) (h : Course s b t) : Course s b (t.dispatchIfEnded before) := by
  unfold State.dispatchIfEnded
  split
  · exact h.dispatch
  · exact h

theorem recap (h : Course s b t) : Course s false t.recap := h.onMoves fun _ m => admits_setDuty t m

/-- The moves that have re-entered a driving phase may time out in the step, and the legs react twice (R115). -/
theorem returnToDrive {p : Phase} {f : Order → Move → Move}
    (h : Course s b (t.onMoves fun o m => if m.phase = p then f o m else m)) : Course s true (t.returnToDrive p f) := by
  have h1 := h.settle
  unfold State.returnToDrive
  dsimp only
  generalize (t.onMoves fun o m => if m.phase = p then f o m else m).settle = w at h1
  refine (h1.change (.adjusts (.of_slots (t := w.expireReentered t p)
    (by simp only [State.expireReentered, State.mapSlots]) fun i => ?_))).settle
  rw [State.expireReentered, slot_mapSlots]
  split
  · refine .mapMove (.refl w) fun o m _ => ?_
    split
    · next hd => exact admits_timeOut w o hd.1
    · exact .refl w m
  · exact .of_eq (.refl w) rfl

/-- A course goes on from a state that differs in fields no law speaks of. -/
theorem of_before {v : State} (h : Course v b t) (hp : v.pool = s.pool) (hm : v.monitors = s.monitors)
    (hs : v.stored = s.stored) : Course s b t := by
  induction h with
  | refl => exact (Course.refl (s := s)).same hp hm hs
  | change _ hc ih => exact ih.change hc
  | quiet _ hc hq ih => exact ih.quiet hc hq
  | settle _ ih => exact ih.settle
  | accept i o _ hv ht hk hn hl ih => exact ih.accept i o (by rw [← slot_of_pool hp i]; exact hv) ht hk hn hl

end Course

/-! ### Events of the monitors (R112, R114, R117, R139) -/

/-- A state whose registers change and whose moves go on by one rule, as the monitors then allow. -/
theorem State.Adjust.of_event {s u : State} {f : Order → Move → Move} (hp : u.pool = s.pool)
    (hs : s.StoreLaw → u.StoreLaw) (ht : s.ThermalLaw → u.ThermalLaw) (hr : u.inReset = s.inReset)
    (hf : ∀ (o : Order) (m : Move), m.goesOn (f o m))
    (ha : s.PoolLaw → s.MoveLaw → ∀ i o m, s.slot i = .active o m → m.lawful = true → s.allows m = true →
      u.allows (f o m) = true) : s.Adjust (u.onMoves f) := by
  have hpool := hp
  simp only [State.pool, Prod.mk.injEq] at hp
  obtain ⟨-, hlegs, hacts, hacc, hcomp, hg, hn⟩ := hp
  have hact : ∀ a, (u.onMoves f).act a = s.act a := fun a => by
    rw [State.onMoves, mapSlots_actAt]
    simp only [State.act, hacts]
  have hslot : ∀ i, (u.onMoves f).slot i = (s.slot i).mapMove f := fun i => by
    rw [slot_onMoves, slot_of_pool hpool]
  refine ⟨?_, ?_, ?_, ?_, fun i => ?_, fun k => .of_eq ?_, fun a => ?_, fun _ hd a => ?_, fun h => ?_, fun h => ?_,
    fun hpl hl hm => ⟨fun i => ?_, fun h i => ?_⟩⟩
  · rw [State.onMoves, mapSlots_acceptance, hacc]
  · rw [State.onMoves, mapSlots_completion, hcomp]
  · rw [State.onMoves, mapSlots_grant, hg]
  · rw [State.onMoves, mapSlots_serial, hn]
  · rw [hslot]
    exact .mapMove Move.goesOn.refl fun o m _ => hf o m
  · rw [State.onMoves, mapSlots_legAt, leg_of_pool hpool]
  · rw [hact]; exact ⟨rfl, rfl⟩
  · rw [hact]; exact hd a
  · exact storeLaw_congr (s := u) (by simp only [State.stored, State.onMoves, State.mapSlots]) (hs h)
  · exact thermalLaw_congr (s := u) (by simp only [State.monitors, State.onMoves, State.mapSlots]) (ht h)
  · rw [hslot, allows_congr (s := u) (by simp only [State.monitors, State.onMoves, State.mapSlots])]
    have hli := hl i
    have hmi := hm.1 i
    cases hx : s.slot i with
    | active o m =>
      rw [hx] at hli hmi
      exact ha hpl hl i o m hx hli hmi
    | _ => rfl
  · rw [hslot, hm.2 (by rwa [State.onMoves, mapSlots_inReset, hr] at h) i]
    rfl

theorem onHold_goesOn (m : Move) : m.goesOn m.onHold := by
  unfold Move.onHold
  split
  · next hd =>
    refine ⟨rfl, rfl, fun hl => ?_⟩
    obtain ⟨⟨h1, h2, h3, h4⟩, -⟩ := clean_of_driving hd hl
    simp [Move.hold, Move.lawful, h1, h2, h3, h4]
  · split
    · next hp => exact ⟨rfl, rfl, fun hl => by simpa [Move.lawful, hp] using hl⟩
    · exact .refl m

/-- While the hold line is asserted, the response of a move to the assertion is allowed (R112). -/
theorem allows_onHold {s u : State} {m : Move} (hu : u.monitors = ({ s with holdOn := true } : State).monitors)
    (hs : s.holdOn = false) (ha : s.allows m = true) : u.allows m.onHold = true := by
  rw [allows_congr hu]
  revert ha
  cases hp : m.phase <;>
    simp +contextual [State.allows, Move.onHold, Move.fitsHold, hp, hs, Phase.driving, Move.hold]

theorem clearPending_goesOn (m : Move) : m.goesOn m.clearPending := by
  unfold Move.clearPending
  split
  · next hp => exact ⟨rfl, rfl, fun hl => by simpa [Move.lawful, hp] using hl⟩
  · exact .refl m

/-- What HOLD_RELEASED makes of a move: hold-pending cleared, a HELD move back to driving (R114). -/
def State.released (s : State) (o : Order) (m : Move) : Move :=
  if m.clearPending.phase = .held then s.reenter o m.clearPending else m.clearPending

theorem Move.goesOn.trans {l m n : Move} (h : l.goesOn m) (k : m.goesOn n) : l.goesOn n :=
  ⟨k.1.trans h.1, k.2.1.trans h.2.1, fun hl => k.2.2 (h.2.2 hl)⟩

theorem released_goesOn (s : State) (o : Order) (m : Move) : m.goesOn (s.released o m) := by
  unfold State.released
  split
  · next hp =>
    refine (clearPending_goesOn m).trans (reenter_goesOn fun hl => ?_)
    simp only [Move.lawful, hp, Bool.and_eq_true, Option.isNone_iff_eq_none, Bool.not_eq_true'] at hl
    obtain ⟨⟨⟨⟨⟨h1, h2⟩, -⟩, -⟩, h3⟩, h4⟩ := hl
    exact ⟨h1, h2, h3, h4⟩
  · exact clearPending_goesOn m

theorem clearPending_phase (m : Move) : m.clearPending.phase = m.phase := by
  unfold Move.clearPending
  split <;> rfl

theorem allows_released {s u v : State} {o : Order} {m : Move}
    (hu : u.monitors = ({ s with holdOn := false } : State).monitors) (hs : s.holdOn = true) (ha : s.allows m = true) :
    u.allows (v.released o m) = true := by
  rw [allows_congr hu]
  unfold State.released
  rw [clearPending_phase]
  split
  · next hp =>
    have h : s.supply = .inRange ∧ s.thermal ≠ .shutdown ∧ s.thermal ≠ .cooled := by
      simpa [State.allows, Move.fitsHold, hp, hs, and_assoc] using ha
    exact allows_of_released rfl h.1 h.2.1 h.2.2 (reenter_phase v o _)
  · revert ha
    cases hp : m.phase <;>
      simp_all [State.allows, Move.clearPending, Move.fitsHold]

theorem onSupplyOut_goesOn (s : State) (m : Move) : m.goesOn (s.onSupplyOut m) := by
  unfold State.onSupplyOut
  split
  · next hd =>
    refine ⟨rfl, rfl, fun hl => ?_⟩
    obtain hd | hd := hd
    · obtain ⟨⟨h1, h2, h3, h4⟩, -⟩ := clean_of_driving hd hl
      simp [State.suspend, Move.lawful, h1, h2]
    · simp only [Move.lawful, hd, Bool.and_eq_true] at hl
      simp [State.suspend, Move.lawful, hl]
  · exact .refl m

/-- Out of IN a move that did not brake is SUSPENDED, and that is allowed (R117). -/
theorem allows_onSupplyOut {s u v : State} {m : Move} (hu : u.monitors = ({ s with supply := .out } : State).monitors)
    (hb : m.phase ≠ .braking) (ha : s.allows m = true) : u.allows (v.onSupplyOut m) = true := by
  rw [allows_congr hu]
  revert ha
  cases hp : m.phase <;>
    simp_all [State.allows, State.onSupplyOut, Move.fitsHold, Phase.driving, State.suspend]

/-! ### Endings that come before a change they do not read -/

theorem eq_of_slots {s t : State} (h : t = { s with slots := t.slots }) (hs : ∀ i, t.slot i = s.slot i) : t = s := by
  have hv : t.slots = s.slots := Vector.ext fun i hi => hs ⟨i, hi⟩
  rw [h, hv]

theorem eq_of_legs {s t : State} (h : t = { s with legs := t.legs }) (hs : ∀ k, t.leg k = s.leg k) : t = s := by
  have hv : t.legs = s.legs := Vector.ext fun k hk => hs ⟨k, hk⟩
  rw [h, hv]

theorem onMoves_onMoves (s : State) (f g : Order → Move → Move) :
    (s.onMoves f).onMoves g = s.onMoves fun o m => g o (f o m) := by
  refine eq_of_slots (by simp only [State.onMoves, State.mapSlots]) fun i => ?_
  rw [slot_onMoves, slot_onMoves, slot_onMoves]
  cases s.slot i <;> rfl

end Sys2Proof.Machine
end

section
/-! PROOF. The course of every step, command by command, and the laws that every step keeps. -/

namespace Sys2Proof.Machine

/-! ### Endings that come before a change they do not read (R33, R117, R139) -/

/-- An over-current's endings come to the same before the leg latches OFF (R33). -/
theorem endOrder_latchOff (s : State) (k : LegNo) (e : Ending) (i : SlotNo) :
    (s.latchOff k).endOrder e i = (s.endOrder e i).latchOff k := by
  have hslot : (s.latchOff k).slot i = s.slot i := rfl
  refine eq_of_legs ?_ fun j => ?_
  · unfold State.endOrder
    rw [hslot]
    cases s.slot i <;> rfl
  · rw [leg_endOrder, hslot, leg_latchOff, leg_latchOff, leg_endOrder, leg_endOrder]
    by_cases hk : k = j
    · simp only [if_pos hk]
      cases (s.slot i).move.isSome <;> rfl
    · simp only [if_neg hk]

theorem endOrders_latchOff (e : Ending) (k : LegNo) (is : List SlotNo) :
    ∀ s : State, (s.latchOff k).endOrders e is = (s.endOrders e is).latchOff k := by
  induction is with
  | nil => exact fun _ => rfl
  | cons i is ih =>
    intro s
    have h : (s.latchOff k).endOrders e (i :: is) = ((s.latchOff k).endOrder e i).endOrders e is := rfl
    rw [h, endOrder_latchOff]
    exact ih _

/-- The state as a shutdown rise leaves its registers (R139). -/
def State.shutDown (s : State) : State :=
  { s with shutdownSet := true, thermal := .shutdown }.setFlag .thermalShutdown

theorem endOrders_shutDown (e : Ending) (is : List SlotNo) :
    ∀ s : State, s.shutDown.endOrders e is = (s.endOrders e is).shutDown := by
  induction is with
  | nil => exact fun _ => rfl
  | cons i is ih =>
    intro s
    have h : s.shutDown.endOrders e (i :: is) = (s.shutDown.endOrder e i).endOrders e is := rfl
    have hone : s.shutDown.endOrder e i = (s.endOrder e i).shutDown := by
      have hslot : s.shutDown.slot i = s.slot i := rfl
      unfold State.endOrder
      rw [hslot]
      cases s.slot i <;> rfl
    rw [h, hone]
    exact ih _

/-- The outcome that a move in BRAKING has decided (R103). -/
def SlotState.decided (x : SlotState) : Option Ending :=
  match x.move with
  | some m => if m.phase = .braking then m.outcome else none
  | none => none

theorem endBraked_eq (s : State) (i : SlotNo) :
    s.endBraked i = match (s.slot i).decided with | some e => s.endOrder e i | none => s := by
  unfold State.endBraked SlotState.decided
  cases (s.slot i).move with
  | none => rfl
  | some m =>
    dsimp only
    split
    · cases m.outcome <;> rfl
    · rfl

/-- The state as a supply out in IN leaves its moves (R117), the endings aside. -/
def State.supplyLost (s : State) : State := { s with supply := .out }.onMoves fun _ m => s.onSupplyOut m

theorem slot_supplyLost (s : State) (i : SlotNo) :
    s.supplyLost.slot i = (s.slot i).mapMove fun _ m => s.onSupplyOut m :=
  slot_onMoves { s with supply := .out } _ i

theorem onSupplyOut_braking {s : State} {m : Move} (h : m.phase = .braking) : s.onSupplyOut m = m := by
  simp [State.onSupplyOut, h, Phase.driving]

theorem onSupplyOut_not_braking {s : State} {m : Move} (h : m.phase ≠ .braking) :
    (s.onSupplyOut m).phase ≠ .braking := by
  unfold State.onSupplyOut
  split
  · exact nofun
  · exact h

theorem decided_supplyLost (s : State) (i : SlotNo) : (s.supplyLost.slot i).decided = (s.slot i).decided := by
  rw [slot_supplyLost]
  cases s.slot i with
  | active o m =>
    by_cases h : m.phase = .braking
    · simp only [SlotState.mapMove, onSupplyOut_braking h]
    · simp only [SlotState.decided, SlotState.move, SlotState.mapMove, if_neg h, if_neg (onSupplyOut_not_braking h)]
  | _ => rfl

theorem onSupplyOut_congr {s t : State} (h : t.settings = s.settings) (m : Move) :
    t.onSupplyOut m = s.onSupplyOut m := by
  simp only [State.onSupplyOut, State.suspend, State.suspendStart, h]

theorem slot_of_decided {x : SlotState} {e : Ending} (h : x.decided = some e) :
    ∃ o m, x = .active o m ∧ m.phase = .braking ∧ m.outcome = some e := by
  cases x with
  | active o m =>
    simp only [SlotState.decided, SlotState.move] at h
    split at h
    · next hp => exact ⟨o, m, rfl, hp, h⟩
    · cases h
  | _ => cases h

/-- The ending of an active move, in a state that differs in the supply state and in the slots. -/
theorem endOrder_withSlots {s : State} {i : SlotNo} {o : Order} {m : Move} (e : Ending) (p : Supply)
    (v : Vector SlotState 16) (hs : s.slot i = .active o m)
    (hv : ({ s with supply := p, slots := v } : State).slot i = .active o m) :
    ({ s with supply := p, slots := v } : State).endOrder e i =
      { s.endOrder e i with supply := p, slots := v.set i (.done (s.recordOfMove o m e)) } := by
  unfold State.endOrder
  rw [hs, hv]
  rfl

theorem supplyLost_eq (s : State) : s.supplyLost = { s with supply := .out, slots := s.supplyLost.slots } := rfl

theorem endBraked_supplyLost (s : State) (i : SlotNo) : s.supplyLost.endBraked i = (s.endBraked i).supplyLost := by
  rw [endBraked_eq, endBraked_eq, decided_supplyLost]
  cases hd : (s.slot i).decided with
  | none => rfl
  | some e =>
    obtain ⟨o, m, hx, hp, -⟩ := slot_of_decided hd
    have hx' : s.supplyLost.slot i = .active o m := by
      rw [slot_supplyLost, hx, SlotState.mapMove, onSupplyOut_braking hp]
    dsimp only
    refine eq_of_slots ?_ fun j => ?_
    · have hv := endOrder_withSlots e .out s.supplyLost.slots hx hx'
      rw [← supplyLost_eq] at hv
      rw [hv]
      generalize s.endOrder e i = t
      rfl
    · rw [slot_endOrder, slot_supplyLost, slot_supplyLost, slot_supplyLost, slot_endOrder, hx, SlotState.mapMove,
        onSupplyOut_braking hp]
      split
      · rfl
      · cases s.slot j with
        | active p n =>
          exact congrArg (SlotState.active p) (onSupplyOut_congr (sameOutside_endOrder s e i).settings_eq n).symm
        | _ => rfl

theorem foldl_endBraked_supplyLost (is : List SlotNo) :
    ∀ s : State, is.foldl (fun u i => u.endBraked i) s.supplyLost =
      (is.foldl (fun u i => u.endBraked i) s).supplyLost := by
  induction is with
  | nil => exact fun _ => rfl
  | cons i is ih =>
    intro s
    rw [List.foldl_cons, List.foldl_cons, endBraked_supplyLost]
    exact ih _

theorem decided_ended (s : State) (e : Ending) (x : SlotState) : (x.ended s e).decided = none := by
  cases x <;> rfl

/-- The decided moves of a list have ended after the endings of the list, and no slot has decided meanwhile. -/
theorem decided_foldl_endBraked (is : List SlotNo) :
    ∀ (s : State) (i : SlotNo), i ∈ is ∨ (s.slot i).decided = none →
      ((is.foldl (fun u j => u.endBraked j) s).slot i).decided = none := by
  induction is with
  | nil =>
    rintro s i (h | h)
    · cases h
    · exact h
  | cons j is ih =>
    intro s i hi
    rw [List.foldl_cons]
    refine ih _ i ?_
    have hend : i = j ∨ (s.slot i).decided = none → ((s.endBraked j).slot i).decided = none := by
      intro h
      rw [endBraked_eq]
      cases hd : (s.slot j).decided with
      | none =>
        obtain rfl | h := h
        · exact hd
        · exact h
      | some e =>
        dsimp only
        rw [slot_endOrder]
        split
        · exact decided_ended s e _
        · next hji => exact h.resolve_left fun hij => hji hij.symm
    rw [List.mem_cons] at hi
    obtain (rfl | hi) | hi := hi
    · exact .inr (hend (.inl rfl))
    · exact .inl hi
    · exact .inr (hend (.inr hi))

theorem acceptance_endBraked (s : State) (i : SlotNo) {j : SlotNo} (h : j ∈ (s.endBraked i).acceptance) :
    j ∈ s.acceptance := by
  rw [endBraked_eq] at h
  cases hd : (s.slot i).decided with
  | none => rwa [hd] at h
  | some e =>
    obtain ⟨o, m, hx, -, -⟩ := slot_of_decided hd
    rw [hd] at h
    dsimp only at h
    rw [acceptance_endOrder s e i (by rw [hx]; rfl)] at h
    exact (List.mem_filter.1 h).1

theorem acceptance_foldl_endBraked (is : List SlotNo) :
    ∀ (s : State) {j : SlotNo}, j ∈ (is.foldl (fun u i => u.endBraked i) s).acceptance → j ∈ s.acceptance := by
  induction is with
  | nil => exact fun _ _ => id
  | cons i is ih => exact fun s j h => acceptance_endBraked s i (ih _ h)

/-- After the endings of a supply out no move of the pool is in BRAKING with an outcome (R117). -/
theorem decided_after_supplyOut (s : State) {i : SlotNo} :
    let v := (s.accepted fun x => x.inPhase (· == .braking)).foldl (fun u j => u.endBraked j) s
    i ∈ v.acceptance → (v.slot i).decided = none := by
  intro v hi
  have hacc := acceptance_foldl_endBraked _ s hi
  refine decided_foldl_endBraked _ s i ?_
  by_cases hb : (s.slot i).inPhase (· == .braking) = true
  · exact .inl (List.mem_filter.2 ⟨hacc, hb⟩)
  · refine .inr ?_
    by_contra hd
    obtain ⟨e, he⟩ := Option.ne_none_iff_exists'.1 hd
    obtain ⟨o, m, hx, hp, -⟩ := slot_of_decided he
    simp [hx, SlotState.inPhase, SlotState.move, hp] at hb

/-! ### Events of the pool's timers and of the detectors (R13, R87) -/

theorem course_rampExpiry (i : SlotNo) (s : State) : Course s true (s.rampExpiry i) := by
  refine .settle (Course.refl.onMove fun o m _ => ?_)
  split
  · next h => exact admits_ramp s h.1 h.2
  · exact .refl s m

theorem course_timeoutExpiry (i : SlotNo) (s : State) : Course s true (s.timeoutExpiry i) := by
  refine .settle (Course.refl.onMove fun o m _ => ?_)
  split
  · next h => exact admits_timeOut s o h.1
  · exact .refl s m

theorem course_windowExpiry (i : SlotNo) (s : State) : Course s true (s.windowExpiry i) := by
  unfold State.windowExpiry
  split
  · next o m hx =>
    split
    · next hd =>
      split
      · next hk =>
        have hact : s.Adjust (s.setAct o.actuator ((s.act o.actuator).recalibrate o)) :=
          .of_act rfl rfl fun hw _ => .inr (hw.2 o.actuator i (by
            rw [hx]; simp [SlotState.ordersFor, SlotState.order, hk]))
        have hquiet : s.quiet (s.setAct o.actuator ((s.act o.actuator).recalibrate o)) :=
          quiet_of_slots (fun k => by simp) fun j => by simp
        exact ((Course.refl.quiet (.adjusts hact) hquiet).setActive (by simpa using hx) (admits_brake s _ hd)).settle
      · exact (Course.refl.setActive hx (admits_brake s _ hd)).settle
    · exact Course.refl
  all_goals exact Course.refl

theorem course_brakeTimerExpiry (i : SlotNo) (s : State) : Course s true (s.brakeTimerExpiry i) :=
  ((Course.refl.endBraked i).settle).dispatchIfEnded s

theorem course_fenceDelayExpiry (i : SlotNo) (s : State) : Course s true (s.fenceDelayExpiry i) := by
  unfold State.fenceDelayExpiry
  split
  · exact ((Course.refl.endOrder .done i).settle).dispatch
  all_goals exact Course.refl

theorem course_suspendLimitExpiry (i : SlotNo) (s : State) : Course s true (s.suspendLimitExpiry i) := by
  unfold State.suspendLimitExpiry
  split
  · split
    · exact ((Course.refl.endOrder .supply i).settle).dispatch
    · exact Course.refl
  · exact Course.refl

theorem endBreak_shows {d : Demand} {x : LegState} (h : x.shows d = true) : x.endBreak.shows d = true := by
  cases x with
  | brk e n =>
    obtain rfl : e = d := beq_iff_eq.1 (Bool.and_eq_true_iff.1 h).1
    cases e <;> rfl
  | _ => exact h

theorem endBreak_eq_off {x : LegState} (h : x.endBreak = .off) : x = .off := by
  cases x with
  | brk d n => cases d <;> cases h
  | _ => exact h

/-- Legs enter states at which they still stand at their demand, or stay OFF (R29). -/
theorem quiet_of_legs {s t : State} (hc : ∀ k, (t.leg k).claims = (s.leg k).claims)
    (hm : ∀ i, (t.slot i).move.map Move.asks = (s.slot i).move.map Move.asks)
    (hoff : ∀ k, (s.leg k).state = .off → (t.leg k).state = .off)
    (hsh : ∀ k d, (s.leg k).state.shows d = true → (t.leg k).state.shows d = true) : s.quiet t := by
  intro _ _ hs k
  rw [demand_asks (hc k) hm]
  exact (hs k).imp (hoff k) (hsh k _)

theorem course_deadIntervalEnd (k : LegNo) (s : State) : Course s true (s.deadIntervalEnd k) := by
  have hleg : ∀ j, (s.deadIntervalEnd k).leg j = if k = j then (s.leg k).enter (s.leg k).state.endBreak else s.leg j :=
    fun j => leg_setLeg s k j _
  refine Course.refl.quiet (.adjusts (.of_legs (by simp only [State.deadIntervalEnd, State.setLeg]) fun j => ?_))
    (quiet_of_legs (fun j => ?_) (fun _ => rfl) (fun j h => ?_) fun j d h => ?_)
  · rw [hleg]
    split
    · next hk => exact hk ▸ ⟨rfl, endBreak_eq_off, (s.leg k).runsOn_enter _⟩
    · exact .of_eq rfl
  · rw [hleg]
    split
    · next hk => rw [← hk, enter_claims]
    · rfl
  · rw [hleg]
    split
    · next hk => rw [enter_state, hk, h]; rfl
    · exact h
  · rw [hleg]
    split
    · next hk =>
      rw [enter_state]
      exact endBreak_shows (hk ▸ h)
    · exact h

theorem course_movePulse (a : ActNo) (i : SlotNo) (o : Order) (m : Move) (s : State) (hx : s.slot i = .active o m) :
    Course s true (s.movePulse a i m) := by
  unfold State.movePulse
  split
  · exact Course.refl
  · dsimp only
    have hact : s.Adjust (s.setAct a ((s.act a).count m.dir)) :=
      .of_act rfl rfl fun _ hv => .inl (by simp only [Actuator.count, Bool.and_eq_true] at hv; exact hv.1)
    have hpos : Course s true ((s.setAct a ((s.act a).count m.dir)).setFlagIf
        (saturates m.dir (s.act a).position) .positionLost) :=
      .setFlagIf _ _ (Course.refl.quiet (.adjusts hact) (quiet_of_slots (fun k => by simp) fun j => by simp))
    have hslot : ((s.setAct a ((s.act a).count m.dir)).setFlagIf
        (saturates m.dir (s.act a).position) .positionLost).slot i = .active o m := by simpa using hx
    generalize (s.setAct a ((s.act a).count m.dir)).setFlagIf (saturates m.dir (s.act a).position) .positionLost = t
      at hpos hslot
    split
    · next hd =>
      refine (hpos.onMove fun p n hn => ?_).settle
      rw [hslot] at hn
      cases hn
      exact admits_drivenPulse t o hd
    · refine hpos.quiet (.adjusts (Course.adjust_onMove fun p n _ => admits_coastPulse n)) ?_
      refine quiet_of_legs (fun _ => rfl) (fun j => ?_) (fun _ => id) fun _ _ => id
      rw [slot_onMove]
      split
      · cases t.slot j <;> rfl
      · rfl

theorem course_ripplePulse (a : ActNo) (s : State) : Course s true (s.ripplePulse a) := by
  unfold State.ripplePulse
  split
  · split
    · have hact : s.Adjust (s.setAct a (s.act a).strayPulse) :=
        .of_act rfl rfl fun _ hv => .inl (by
          simp only [Actuator.strayPulse, Bool.and_eq_true] at hv; exact hv.1)
      exact .setFlagIf _ _ (Course.refl.quiet (.adjusts hact) (quiet_of_slots (fun k => by simp) fun j => by simp))
    · next i _ =>
      cases hx : s.slot i with
      | active o m => exact course_movePulse a i o m s hx
      | _ => exact Course.refl
  · exact Course.refl

/-! ### Events of the monitors and the comparators -/

theorem monitorLaw_mono {s t : State} (hslot : ∀ i, t.slot i = s.slot i) (hr : t.inReset = s.inReset)
    (ha : ∀ m, s.allows m = true → t.allows m = true) (h : s.MonitorLaw) : t.MonitorLaw := by
  refine ⟨fun i => ?_, fun hl i => ?_⟩
  · rw [hslot]
    have hi := h.1 i
    cases hx : s.slot i with
    | active o m =>
      rw [hx] at hi
      exact ha m hi
    | _ => rfl
  · rw [hslot]
    exact h.2 (hr ▸ hl) i

/-- Registers change, those of the monitors too, and what they allowed they still allow. -/
theorem Course.registersWith {s t u : State} {b : Bool} (h : Course s b t) (hp : u.pool = t.pool)
    (hs : t.StoreLaw → u.StoreLaw) (ht : t.ThermalLaw → u.ThermalLaw) (hr : u.inReset = t.inReset)
    (ha : ∀ m, t.allows m = true → u.allows m = true) : Course s b u :=
  h.quiet (.adjusts (.of_pool hp hs ht fun _ _ => monitorLaw_mono (slot_of_pool hp) hr ha)) (quiet_of_pool hp)

theorem course_holdAsserted (s : State) : Course s true s.holdAsserted := by
  unfold State.holdAsserted
  split
  · exact Course.refl
  · next hh =>
    have hh : s.holdOn = false := by simpa using hh
    refine .settle (Course.refl.change (.adjusts (.of_event (s := s)
      (u := ({ s with holdOn := true } : State).setFlag .holdOn) rfl (storeLaw_setFlag .holdOn) id rfl
      (fun _ m => onHold_goesOn m) fun _ _ _ _ m _ _ ha => allows_onHold (s := s) rfl hh ha)))

theorem course_holdReleased (s : State) : Course s true s.holdReleased := by
  unfold State.holdReleased
  split
  · next hh =>
    dsimp only
    refine (Course.returnToDrive (b := false) ?_).dispatch
    rw [onMoves_onMoves]
    exact Course.refl.change (.adjusts (.of_event (s := s) (u := ({ s with holdOn := false } : State).setFlag .holdOff)
      (f := State.released _) rfl (storeLaw_setFlag .holdOff) id rfl (released_goesOn _)
      fun _ _ _ o m _ _ ha => allows_released (s := s) rfl hh ha))
  · exact Course.refl

/-- A supply out in IN: the BRAKING moves end, and then the others are SUSPENDED (R117). -/
theorem Course.loseSupply {s t : State} {b : Bool} (h : Course s b t) : Course s true t.loseSupply := by
  have hends : Course s false ((t.accepted fun x => x.inPhase (· == .braking)).foldl (fun u i => u.endBraked i) t) :=
    Course.foldl (fun u i hu => hu.endBraked i) _ h.unsettled
  have hlost : t.loseSupply = ((((t.accepted fun x => x.inPhase (· == .braking)).foldl
      (fun u i => u.endBraked i) t).supplyLost).settle).dispatchIfEnded t := by
    rw [← foldl_endBraked_supplyLost]
    rfl
  have hdone := @decided_after_supplyOut t
  rw [hlost]
  dsimp only at hdone
  generalize (t.accepted fun x => x.inPhase (· == .braking)).foldl (fun u i => u.endBraked i) t = v at hends hdone
  refine .dispatchIfEnded t (.settle (hends.change (.adjusts (.of_event (u := { v with supply := .out }) rfl id id rfl
    (fun _ m => onSupplyOut_goesOn v m) fun hp hl i o m hx hlm ha => allows_onSupplyOut rfl (fun hb => ?_) ha))))
  have hacc : i ∈ v.acceptance := by rw [hp.2.2.1, hx]; rfl
  have hno := hdone hacc
  rw [hx] at hno
  simp only [SlotState.decided, SlotState.move, hb, if_true] at hno
  simp [Move.lawful, hb, hno] at hlm

theorem course_supplyOut (s : State) : Course s true s.supplyOut := by
  unfold State.supplyOut
  split
  · have ht : Course s true (({ s with insideOuter := false, armed := true } : State).setFlag .supplyOut) :=
      .setFlag _ (Course.refl.same rfl rfl rfl)
    dsimp only
    split
    · exact ht.loseSupply
    · exact ht
    · next n hs =>
      exact ht.registersWith rfl id id rfl fun m ha => by simpa [State.allows, State.setFlag, hs] using ha
  · exact Course.refl

end Sys2Proof.Machine
end

section
/-! PROOF. The course of the events of the supply, the die and the legs, of a unit of time, and of the full reset. -/

namespace Sys2Proof.Machine

theorem course_refl (s : State) : Course s true s := .refl

/-! ### Supply (R119, R120, R144) -/

theorem Course.recover {s t : State} {b : Bool} (h : Course s b t) : Course s b t.recover := by
  unfold State.recover
  split
  · next hs => exact h.registersWith rfl id id rfl fun m ha => by simpa [State.allows, hs] using ha
  all_goals exact h

theorem Course.supplyInRange {s t : State} {b : Bool} (h : Course s b t) : Course s b t.supplyInRange := by
  unfold State.supplyInRange
  split
  · exact .recover (h.same rfl rfl rfl)
  · exact h

theorem course_outerWindowReentry (s : State) : Course s true s.outerWindowReentry := (course_refl s).same rfl rfl rfl

theorem Course.resumeAll {s t : State} {b : Bool} (h : Course s b t) (hs : t.supply = .inRange) :
    Course s true t.resumeAll := by
  refine .returnToDrive (h.onMoves fun o m => ?_)
  split
  · next hp => exact admits_resumeMove t o hs hp
  · exact .refl t m

theorem course_restartDelayExpiry (s : State) : Course s true s.restartDelayExpiry := by
  unfold State.restartDelayExpiry
  split
  · next n hs =>
    have ht : Course s true (({ s with supply := .inRange } : State).setFlag .supplyIn) :=
      .setFlag _ ((course_refl s).registersWith rfl id id rfl fun m ha => by
        simp only [State.allows, hs, Bool.and_eq_true] at ha ⊢
        exact ⟨⟨⟨ha.1.1.1, rfl⟩, ha.1.2⟩, ha.2⟩)
    dsimp only
    refine .dispatch ?_
    split
    · exact ht.resumeAll rfl
    · exact ht
  all_goals exact course_refl s

/-! ### Thermal (R138, R139, R141, R142) -/

theorem course_warnRise (s : State) : Course s true s.warnRise := by
  unfold State.warnRise
  split
  · exact course_refl s
  · dsimp only
    split
    · next hn =>
      have hwarm : Course s true { s with warnSet := true, thermal := .warm } :=
        (course_refl s).registersWith rfl id (fun ht => by
          simp only [State.ThermalLaw, hn] at ht
          exact ⟨rfl, ht.2⟩) rfl fun m ha => by simpa [State.allows, hn] using ha
      exact (hwarm.setFlag .thermalWarn).recap.settle
    · next hn =>
      refine (course_refl s).registersWith rfl id (fun ht => ?_) rfl fun _ => id
      unfold State.ThermalLaw at ht ⊢
      dsimp only at ht ⊢
      cases h : s.thermal <;> simp_all

theorem course_warnFall (s : State) : Course s true s.warnFall := by
  unfold State.warnFall
  split
  · dsimp only
    split
    · next hw =>
      have hnormal : Course s true { s with warnSet := false, thermal := .normal } :=
        (course_refl s).registersWith rfl id (fun ht => by
          simp only [State.ThermalLaw, hw] at ht
          exact ⟨rfl, ht.2⟩) rfl fun m ha => by simpa [State.allows, hw] using ha
      exact hnormal.recap.settle
    · next hw =>
      refine (course_refl s).registersWith rfl id (fun ht => ?_) rfl fun _ => id
      unfold State.ThermalLaw at ht ⊢
      dsimp only at ht ⊢
      cases h : s.thermal <;> simp_all
  · exact course_refl s

theorem ended_move (s : State) (e : Ending) (x : SlotState) : (x.ended s e).move = none := by
  cases x <;> rfl

/-- After the endings of a list its slots hold no move, and no other slot has come to hold one. -/
theorem move_endOrders (e : Ending) (is : List SlotNo) :
    ∀ (s : State) (i : SlotNo), i ∈ is ∨ (s.slot i).move = none → ((s.endOrders e is).slot i).move = none := by
  induction is with
  | nil => exact fun s i h => h.resolve_left (List.not_mem_nil)
  | cons j is ih =>
    intro s i hi
    have hstep : i = j ∨ (s.slot i).move = none → ((s.endOrder e j).slot i).move = none := by
      intro h
      rw [slot_endOrder]
      split
      · exact ended_move s e _
      · next hji => exact h.resolve_left fun hij => hji hij.symm
    refine ih (s.endOrder e j) i ?_
    rw [List.mem_cons] at hi
    obtain (hi | hi) | hi := hi
    · exact .inr (hstep (.inl hi))
    · exact .inl hi
    · exact .inr (hstep (.inr hi))

theorem mem_acceptance_of_endOrder {s : State} {e : Ending} {i j : SlotNo} (h : j ∈ (s.endOrder e i).acceptance) :
    j ∈ s.acceptance := by
  cases ho : (s.slot i).holdsOrder with
  | false => rwa [endOrder_of_not_holdsOrder e ho] at h
  | true =>
    rw [acceptance_endOrder s e i ho] at h
    exact (List.mem_filter.1 h).1

theorem mem_acceptance_of_endOrders (e : Ending) (is : List SlotNo) :
    ∀ (s : State) {j : SlotNo}, j ∈ (s.endOrders e is).acceptance → j ∈ s.acceptance := by
  induction is with
  | nil => exact fun _ _ => id
  | cons i is ih => exact fun s _ h => mem_acceptance_of_endOrder (ih (s.endOrder e i) h)

theorem course_shutdownRise (s : State) : Course s true s.shutdownRise := by
  unfold State.shutdownRise
  split
  · have hends := (course_refl s).endOrders .thermal (s.accepted fun x => x.move.isSome)
    have hmove : ∀ i ∈ (s.endOrders .thermal (s.accepted fun x => x.move.isSome)).acceptance,
        ((s.endOrders .thermal (s.accepted fun x => x.move.isSome)).slot i).move = none := by
      intro i hi
      refine move_endOrders _ _ s i ?_
      cases hm : (s.slot i).move with
      | none => exact .inr rfl
      | some m => exact .inl (List.mem_filter.2 ⟨mem_acceptance_of_endOrders _ _ s hi, by simp [hm]⟩)
    have hshut : (({ s with shutdownSet := true, thermal := .shutdown } : State).setFlag .thermalShutdown).endOrders
        .thermal (s.accepted fun x => x.move.isSome) =
          (s.endOrders .thermal (s.accepted fun x => x.move.isSome)).shutDown := endOrders_shutDown _ _ s
    dsimp only
    rw [hshut]
    generalize s.endOrders .thermal (s.accepted fun x => x.move.isSome) = v at hends hmove
    refine .dispatchIfEnded s (.settle (hends.change (.adjusts (.of_pool (t := v.shutDown) rfl
      (storeLaw_setFlag (s := { v with shutdownSet := true, thermal := .shutdown }) .thermalShutdown) (fun _ => rfl)
      fun hp _ hm => ⟨fun i => ?_, hm.2⟩))))
    have hslot : v.shutDown.slot i = v.slot i := rfl
    rw [hslot]
    cases hx : v.slot i with
    | active o m =>
      have := hmove i ((hp.2.2.1 i).2 (by rw [hx]; rfl))
      rw [hx] at this
      cases this
    | _ => rfl
  · exact course_refl s

theorem course_shutdownFall (s : State) : Course s true s.shutdownFall := by
  unfold State.shutdownFall
  split
  · dsimp only
    split
    · next hs =>
      refine .setFlag _ ((course_refl s).registersWith rfl id (fun _ => rfl) rfl fun m ha => ?_)
      simp [State.allows, hs] at ha
    · next hs =>
      refine (course_refl s).registersWith rfl id (fun ht => ?_) rfl fun _ => id
      unfold State.ThermalLaw at ht ⊢
      dsimp only at ht ⊢
      cases h : s.thermal <;> simp_all
  · exact course_refl s

/-! ### Over-current (R33) -/

theorem claimedBy_of_endOrders (e : Ending) (k : LegNo) (j : SlotNo) (is : List SlotNo) :
    ∀ s : State, ((s.endOrders e is).leg k).claimedBy j = true → (s.leg k).claimedBy j = true := by
  induction is with
  | nil => exact fun _ => id
  | cons i is ih =>
    intro s h
    have hi := ih (s.endOrder e i) h
    rw [leg_endOrder] at hi
    split at hi
    · simp only [Leg.claimedBy, Leg.dropClaim, List.any_filter, List.any_eq_true, Bool.and_eq_true] at hi ⊢
      obtain ⟨c, hc, -, hj⟩ := hi
      exact ⟨c, hc, hj⟩
    · exact hi

theorem course_overCurrent (k : LegNo) (s : State) : Course s true (s.overCurrent k) := by
  unfold State.overCurrent
  split
  · dsimp only
    rw [endOrders_latchOff]
    refine .dispatch (.setFlag _ (.settle (.change ((course_refl s).endOrders _ _) (.latches _ k fun i hi hc => ?_))))
    refine move_endOrders _ _ s i ?_
    cases hm : (s.slot i).move with
    | none => exact .inr rfl
    | some m =>
      refine .inl (List.mem_filter.2 ⟨mem_acceptance_of_endOrders _ _ s hi, ?_⟩)
      rw [claimedBy_of_endOrders _ _ _ _ s hc, hm]
      rfl
  · exact course_refl s

/-! ### A unit of time (R87, R28, R119) -/

theorem legTick_conducting (x : LegState) : x.tick.conducting = x.conducting := by cases x <;> rfl

theorem legTick_shows {x : LegState} {d : Demand} (h : x.shows d = true) : x.tick.shows d = true := by
  cases x <;> exact h

theorem legTick_eq_off {x : LegState} : x.tick = .off ↔ x = .off := by cases x <;> simp [LegState.tick]

theorem course_clocks (s : State) : Course s true s.clocks := by
  have hclocks : s.clocks = (({ s with supply := s.supply.tick } : State).mapSlots fun _ x => x.tick).mapLegs
      fun _ l => { l with state := l.state.tick } := rfl
  have hsupply : Course s true { s with supply := s.supply.tick } :=
    (course_refl s).registersWith rfl id id rfl fun m ha => by
      cases h : s.supply <;> simpa [State.allows, h, Supply.tick] using ha
  rw [hclocks]
  generalize ({ s with supply := s.supply.tick } : State) = t at hsupply
  have hslots : Course s true (t.mapSlots fun _ x => x.tick) := by
    refine hsupply.quiet (.adjusts (.of_slots (by simp only [State.mapSlots]) fun i => ?_))
      (quiet_of_legs (fun k => by rw [mapSlots_legAt]) (fun i => ?_) (fun k => by rw [mapSlots_legAt]; exact id)
        fun k d => by rw [mapSlots_legAt]; exact id)
    · rw [slot_mapSlots]
      cases t.slot i with
      | active o m => exact .active o m _ (admits_tick m)
      | waiting o n => exact .waiting o n _
      | _ => exact .of_eq (.refl t) rfl
    · rw [slot_mapSlots]
      cases t.slot i with
      | active o m => exact congrArg some (tick_asks m)
      | _ => rfl
  generalize t.mapSlots (fun _ x => x.tick) = u at hslots
  have hleg : ∀ k, (u.mapLegs fun _ l => { l with state := l.state.tick }).leg k =
      { u.leg k with state := (u.leg k).state.tick } := leg_mapLegs u _
  refine hslots.quiet (.adjusts (.of_legs (by simp only [State.mapLegs]) fun k => ?_))
    (quiet_of_legs (fun k => by rw [hleg]) (fun _ => rfl) (fun k h => ?_) fun k d h => ?_)
  · rw [hleg]
    refine ⟨rfl, legTick_eq_off.1, le_rfl, fun h hn => ?_⟩
    rw [legTick_conducting, h] at hn
    cases hn
  · rw [hleg]
    exact legTick_eq_off.2 h
  · rw [hleg]
    exact legTick_shows h

/-! ### Full reset and motion reset (R181, R133) -/

/-- Legs without claims that float, or are OFF, stand at their demand (R25). -/
theorem demandLaw_of_unclaimed {s : State}
    (h : ∀ k, (s.leg k).claims = [] ∧ ((s.leg k).state = .off ∨ (s.leg k).state = .float)) : s.DemandLaw := by
  intro k
  obtain ⟨hc, hoff | hfl⟩ := h k
  · exact .inl hoff
  · refine .inr ?_
    rw [hfl, State.demand, hc]
    rfl

theorem course_fullReset (s : State) : Course s true s.fullReset := by
  refine (course_refl s).quiet (.fullReset s) fun _ _ _ => demandLaw_of_unclaimed fun k => ?_
  rw [leg_fullReset]
  exact ⟨rfl, .inr rfl⟩

theorem course_cmdMotionReset (s : State) : Course s true s.cmdMotionReset := by
  refine (course_refl s).quiet (.motionReset s) fun _ _ _ => demandLaw_of_unclaimed fun k => ?_
  rw [leg_cmdMotionReset]
  refine ⟨rfl, ?_⟩
  by_cases h : (s.leg k).state = .off
  · exact .inl (by simp [Leg.cutOff, h])
  · exact .inr (by simp [Leg.cutOff, h])

theorem pool_takeDie (die : DieAtReset) (s : State) : (s.takeDie die).pool = s.pool := by cases die <;> rfl

theorem pool_supplyInRange (s : State) : s.supplyInRange.pool = s.pool := by
  unfold State.supplyInRange State.recover
  repeat' split
  all_goals rfl

theorem pool_takeVbr (vbr : VbrAtReset) (s : State) : (s.takeVbr vbr).pool = s.pool := by
  cases vbr with
  | reentry => exact pool_supplyInRange { s with insideOuter := true }
  | _ => rfl

theorem stored_takeDie (die : DieAtReset) (s : State) : (s.takeDie die).stored = s.stored := by cases die <;> rfl

/-- What the law of R137 speaks of. -/
def State.comparators (s : State) := (s.thermal, s.warnSet, s.shutdownSet)

theorem takeVbr_keeps (vbr : VbrAtReset) (s : State) :
    (s.takeVbr vbr).stored = s.stored ∧ (s.takeVbr vbr).comparators = s.comparators := by
  cases vbr with
  | reentry =>
    simp only [State.takeVbr, State.supplyInRange, State.recover]
    repeat' split
    all_goals exact ⟨rfl, rfl⟩
  | _ => exact ⟨rfl, rfl⟩

theorem thermalLaw_of_comparators {s t : State} (h : t.comparators = s.comparators) (hs : s.ThermalLaw) :
    t.ThermalLaw := by
  simp only [State.comparators, Prod.mk.injEq] at h
  obtain ⟨h1, h2, h3⟩ := h
  simp only [State.ThermalLaw, h1, h2, h3]
  exact hs

theorem thermalLaw_takeDie (die : DieAtReset) (s : State) : (s.takeDie die).ThermalLaw := by
  cases die
  · exact ⟨rfl, rfl⟩
  · exact ⟨rfl, rfl⟩
  · rfl

/-- The end of a full reset: the pool is empty, so that any monitor state will do (R63, R181). -/
theorem course_resetEnd (die : DieAtReset) (vbr : VbrAtReset) (holdLow selnLow : Bool) (s : State) :
    Course s true (s.resetEnd die vbr holdLow selnLow) := by
  unfold State.resetEnd
  split
  · next hr =>
    have hpool : ((s.takeDie die).takeVbr vbr).pool = s.pool := (pool_takeVbr vbr _).trans (pool_takeDie die s)
    obtain ⟨hst, hco⟩ := takeVbr_keeps vbr (s.takeDie die)
    refine (course_refl s).quiet (.adjusts (.of_pool hpool (storeLaw_congr (hst.trans (stored_takeDie die s)))
      (fun _ => thermalLaw_of_comparators hco (thermalLaw_takeDie die s))
      fun _ _ hm => ⟨fun i => ?_, nofun⟩)) (quiet_of_pool hpool)
    have hslot := slot_of_pool hpool i
    rw [hm.2 hr i] at hslot
    exact (congrArg (SlotState.moveHas _) hslot).trans rfl
  · exact course_refl s

end Sys2Proof.Machine
end

section
/-! PROOF. The course of the commands of COMMAND, of the writes with an effect at once and of the bytes of a transfer, and so of every step. -/

namespace Sys2Proof.Machine

/-! ### The commands of COMMAND (R176) -/

theorem course_cmdRun (s : State) : Course s true s.cmdRun := .dispatch (.result _ ((course_refl s).same rfl rfl rfl))

theorem course_cmdStop (s : State) : Course s true s.cmdStop :=
  have hstopped : Course s true { s with running := false } := (course_refl s).same rfl rfl rfl
  (hstopped.withdraw _ _ |>.resultCount _).dispatchIfEnded s

theorem course_cmdResume (s : State) : Course s true s.cmdResume := by
  unfold State.cmdResume
  split
  · next hs => exact .dispatch (.resultCount _ ((course_refl s).resumeAll hs))
  · exact (course_refl s).result _

theorem course_cancel (is : List SlotNo) (s : State) : Course s true (s.cancel is) :=
  .dispatchIfEnded s (.resultCount _ ((course_refl s).withdraw _ _))

theorem course_cmdCancelAct (s : State) : Course s true s.cmdCancelAct := by
  unfold State.cmdCancelAct
  split
  · exact course_cancel _ s
  · exact (course_refl s).result _

theorem course_cmdCancelSlot (s : State) : Course s true s.cmdCancelSlot := by
  unfold State.cmdCancelSlot
  split
  · exact course_cancel _ s
  · exact (course_refl s).result _

/-- A leg that leaves OFF floats, and it carries no claim (R34, R36). -/
theorem course_clearLegs (s : State) (p : LegNo → Bool) (hp : ∀ k, p k = true → (s.leg k).state = .off) :
    Course s true (s.mapLegs fun k l => if p k then l.enter .float else l) := by
  have hleg : ∀ k, (s.mapLegs fun k l => if p k then l.enter .float else l).leg k =
      if p k then (s.leg k).enter .float else s.leg k := leg_mapLegs s _
  have hclaims : ∀ k, ((s.mapLegs fun k l => if p k then l.enter .float else l).leg k).claims = (s.leg k).claims := by
    intro k
    rw [hleg]
    split <;> rfl
  refine (course_refl s).quiet (.adjusts (.of_legs (by simp only [State.mapLegs]) fun k => ?_)) fun _ hoff hs k => ?_
  · rw [hleg]
    split
    · exact ⟨rfl, nofun, Leg.runsOn_enter _ _⟩
    · exact .of_eq rfl
  · have hdemand := demand_congr s _ k (hclaims k) fun i => by rw [mapLegs_slotAt]
    rw [hdemand, hleg]
    split
    · next hk =>
      refine .inr ?_
      rw [State.demand, hoff k (hp k hk)]
      rfl
    · exact hs k

theorem course_cmdClearLeg (s : State) : Course s true s.cmdClearLeg := by
  unfold State.cmdClearLeg
  split
  · exact (course_refl s).result _
  · refine .dispatch (.resultCount _ (course_clearLegs s (s.clears s.cmdArg) fun k hk => ?_))
    simp only [State.clears, Bool.and_eq_true, beq_iff_eq] at hk
    exact hk.2

theorem course_cmdClearThermal (s : State) : Course s true s.cmdClearThermal := by
  unfold State.cmdClearThermal
  split
  · next hc =>
    have hcleared : Course s true { s with thermal := if s.warnSet then .warm else .normal } :=
      (course_refl s).registersWith rfl id (fun ht => by
        simp only [State.ThermalLaw, hc] at ht
        unfold State.ThermalLaw
        cases h : s.warnSet
        · exact ⟨rfl, ht⟩
        · exact ⟨rfl, ht⟩) rfl fun m ha => by simp [State.allows, hc] at ha
    exact .dispatch (.result _ hcleared.recap.settle)
  · exact (course_refl s).result _

theorem course_cmdSetPosition (s : State) : Course s true s.cmdSetPosition := by
  unfold State.cmdSetPosition
  split
  · exact (course_refl s).result _
  · split
    · next a _ h =>
      have hact : s.Adjust (s.setAct a ((s.act a).place s.cmdValue)) := .of_act rfl rfl fun _ _ => .inr h.1
      exact .result _ ((course_refl s).quiet (.adjusts hact) (quiet_of_slots (fun k => by simp) fun i => by simp))
    · exact (course_refl s).result _

theorem course_command (code : Byte) (s : State) : Course s true (s.command code) := by
  unfold State.command
  split
  · exact course_cmdRun s
  · exact course_cmdStop s
  · exact course_cmdResume s
  · exact course_cmdCancelAct s
  · exact course_cancel _ s
  · exact course_cmdCancelSlot s
  · exact course_cancel _ s
  · exact course_cmdClearLeg s
  · exact course_cmdClearThermal s
  · exact course_cmdSetPosition s
  · exact course_cmdMotionReset s
  · exact (course_refl s).result _

/-! ### Stored values and writes with an effect at once (R168) -/

theorem within_clamp {lo hi : Byte} (h : lo ≤ hi) (v : Byte) : within lo hi (clamp lo hi v) = true := by
  unfold within clamp
  split
  · simp [h]
  · split
    · simp [h]
    · next h1 h2 => simp [BitVec.not_lt.1 h1, BitVec.not_lt.1 h2]

theorem settings_legal_store {g : Settings} (hg : g.legal = true) (a : Nat) (v : Byte) :
    (g.store a v).legal = true := by
  simp only [Settings.legal, Bool.and_eq_true] at hg ⊢
  obtain ⟨⟨⟨⟨⟨h1, h2⟩, h3⟩, h4⟩, h5⟩, h6⟩ := hg
  have hdead := within_clamp (show (1 : Byte) ≤ 16 by decide) v
  have hbyte := within_clamp (show (1 : Byte) ≤ 255 by decide) v
  unfold Settings.store
  split <;> simp only [h1, h2, h3, h4, h5, h6, hdead, hbyte, and_self]

theorem speedClass_legal_store {c : SpeedClass} (hc : c.legal = true) (n : Nat) (v : Byte) :
    (c.store n v).legal = true := by
  simp only [SpeedClass.legal, Bool.and_eq_true] at hc ⊢
  obtain ⟨⟨⟨h1, h2⟩, h3⟩, h4⟩ := hc
  have hduty := within_clamp (show (8 : Byte) ≤ 64 by decide) v
  have hstep := within_clamp (show (1 : Byte) ≤ 64 by decide) v
  unfold SpeedClass.store
  split <;> simp only [h1, h2, h3, h4, hduty, hstep, and_self]

theorem course_store (a : Addr) (v : Byte) (s : State) : Course s true (s.store a v) := by
  have h := course_refl s
  unfold State.store
  dsimp only
  split
  · exact h.same rfl rfl rfl
  split
  · exact h.same rfl rfl rfl
  split
  · exact h.same rfl rfl rfl
  split
  · exact h.registers rfl rfl fun ⟨h1, h2, h3, h4⟩ => ⟨settings_legal_store h1 _ v, h2, h3, h4⟩
  split
  · exact h.same rfl rfl rfl
  split
  · split
    · exact h.same rfl rfl rfl
    · exact h
  split
  · exact h.same rfl rfl rfl
  split
  · refine h.registers rfl rfl fun ⟨h1, h2, h3, h4⟩ => ⟨h1, fun c => ?_, h3, h4⟩
    simp only [Fin.getElem_fin, Vector.getElem_set]
    split
    · exact speedClass_legal_store (h2 _) _ v
    · exact h2 c
  · exact h

theorem storeLaw_clearFlags {s : State} (w : Half) (h : s.StoreLaw) : (s.clearFlags w).StoreLaw := by
  obtain ⟨h1, h2, h3, h4⟩ := h
  refine ⟨h1, h2, ?_, h4⟩
  rw [State.clearFlags, BitVec.and_assoc, BitVec.and_comm (~~~(w &&& stickyBits)), ← BitVec.and_assoc, h3]
  exact BitVec.zero_and

theorem course_writeFlags (a : Addr) (v : Byte) (s : State) : Course s true (s.writeFlags a v) := by
  have h := course_refl s
  unfold State.writeFlags
  split
  · exact h.registers rfl rfl (storeLaw_clearFlags _)
  · split
    · exact h.registers rfl rfl (storeLaw_clearFlags _)
    · exact h

theorem storeLaw_mask {s : State} (w : Half) (h : s.StoreLaw) :
    ({ s with mask := w &&& maskBits } : State).StoreLaw := by
  obtain ⟨h1, h2, h3, -⟩ := h
  refine ⟨h1, h2, h3, ?_⟩
  dsimp only
  rw [BitVec.and_assoc]
  exact BitVec.and_zero

theorem course_writeMask (a : Addr) (v : Byte) (s : State) : Course s true (s.writeMask a v) := by
  have h := course_refl s
  unfold State.writeMask
  split
  · exact h.registers rfl rfl (storeLaw_mask _)
  · split
    · exact h.registers rfl rfl (storeLaw_mask _)
    · exact h

theorem course_writePassLimit (v : Byte) (s : State) : Course s true (s.writePassLimit v) := by
  have hlimit : Course s true { s with settings := { s.settings with passLimit := clamp 0 15 v } } := by
    refine (course_refl s).registers rfl rfl fun ⟨h1, h2, h3, h4⟩ => ⟨?_, h2, h3, h4⟩
    simp only [Settings.legal, Bool.and_eq_true] at h1 ⊢
    exact ⟨⟨h1.1.1, within_clamp (by decide) v⟩, h1.2⟩
  exact hlimit.setFlagIf _ _

theorem course_writeWarmCap (v : Byte) (s : State) : Course s true (s.writeWarmCap v) := by
  have hcap : Course s true { s with settings := { s.settings with warmCap := clamp 8 64 v } } := by
    refine (course_refl s).registers rfl rfl fun ⟨h1, h2, h3, h4⟩ => ⟨?_, h2, h3, h4⟩
    simp only [Settings.legal, Bool.and_eq_true] at h1 ⊢
    exact ⟨h1.1, within_clamp (by decide) v⟩
  unfold State.writeWarmCap
  dsimp only
  split
  · exact hcap.recap.settle
  · exact hcap

theorem stagedEnabled_act {s : State} (h : s.stagedEnabled = true) :
    (s.act ((actOf s.staging.act).getD 0)).config.enabled = true := by
  unfold State.stagedEnabled at h
  split at h
  · next a ha => rw [ha]; exact h
  · cases h

/-- What an acceptance is made of (R54, R56, R57). -/
theorem checkSubmit_ok {s : State} {i : SlotNo} {o : Order} (h : s.checkSubmit = .ok (i, o)) :
    s.slot i = .free ∧ (o.kind ≠ .fence → (s.act o.actuator).config.enabled = true) ∧ o.serial = s.serial := by
  unfold State.checkSubmit at h
  split at h
  · cases h
  next j hj =>
  split at h
  · cases h
  next k _ =>
  split at h
  · cases h
  next hen =>
  split at h
  · cases h
  next c _ =>
  dsimp only at h
  split at h
  · cases h
  split at h
  · cases h
  split at h
  · cases h
  cases h
  refine ⟨?_, fun hk => ?_, rfl⟩
  · have hfree := List.find?_some hj
    exact (isFree_iff _).1 hfree
  · have hk : k ≠ .fence := hk
    have hactuator : (s.staging.order k ((actOf s.staging.act).getD 0) c s.serial).actuator =
        (actOf s.staging.act).getD 0 := if_neg hk
    rw [hactuator]
    exact stagedEnabled_act (by simpa [hk] using hen)

theorem course_submitRequest (s : State) (hl : s.inReset = false) : Course s true s.submitRequest := by
  unfold State.submitRequest
  split
  · next i o ho =>
    obtain ⟨hfree, hen, hn⟩ := checkSubmit_ok ho
    exact .dispatch ((course_refl s).accept i o hfree hfree hen hn hl)
  · exact (course_refl s).same rfl rfl rfl

theorem course_writeActSel (v : Byte) (s : State) : Course s true (s.writeActSel v) := by
  unfold State.writeActSel
  split
  · exact (course_refl s).same rfl rfl rfl
  · exact course_refl s

theorem course_applyRequest (s : State) : Course s true s.applyRequest := by
  have hresult : Course s true { s with applyResult := s.checkApply } := (course_refl s).same rfl rfl rfl
  unfold State.applyRequest
  dsimp only
  split
  · next hok =>
    refine .dispatch (hresult.quiet (.configures { s with applyResult := s.checkApply } hok) ?_)
    exact quiet_of_slots (fun k => by simp) fun i => by simp
  · exact hresult

theorem course_takeWrite (a : Addr) (v : Byte) (s : State) (hl : s.inReset = false) :
    Course s true (s.takeWrite a v) := by
  unfold State.takeWrite
  split
  · exact course_writeFlags _ v s
  · exact course_writeFlags _ v s
  · exact course_writeMask _ v s
  · exact course_writeMask _ v s
  · exact course_command v s
  · exact course_writePassLimit v s
  · exact course_writeWarmCap v s
  · exact course_submitRequest s hl
  · exact course_writeActSel v s
  · exact course_applyRequest s
  · exact course_store a v s

/-! ### Bytes read and the framing of a transfer (R165, R169) -/

/-- The slot whose record is removed held no move (R40, R45). -/
theorem quiet_pop (s : State) : s.quiet s.pop := by
  intro hp ho hs
  obtain h | ⟨i, rest, hc, h⟩ := pop_cases s
  · rw [h]; exact hs
  · rw [h]
    have hdone : (s.slot i).isDone = true := (hp.2.2.2 i).1 (by rw [hc]; exact List.mem_cons_self)
    refine quiet_of_slots (s := s) (t := s.removeHead i rest) (fun k => rfl) (fun j => ?_) hp ho hs
    rw [slot_removeHead]
    split
    · next hij =>
      subst hij
      cases hx : s.slot i <;> simp_all [SlotState.isDone, SlotState.move]
    · rfl

theorem course_readEffect (s : State) (a : Addr) (c : Captured) : Course s true (s.readEffect a c) := by
  have hview : Course s true (s.viewRead a c) := by
    unfold State.viewRead
    split
    · exact (course_refl s).same rfl rfl rfl
    · exact course_refl s
  have hread : Course s true ((s.viewRead a c).fillShadow a c) := by
    unfold State.fillShadow
    repeat' split
    all_goals exact hview.same rfl rfl rfl
  unfold State.readEffect
  dsimp only
  split
  · exact hread.quiet (.pops _) (quiet_pop _)
  · exact hread

theorem course_dataByte (v : Byte) (s : State) (hl : s.inReset = false) : Course s true (s.dataByte v) := by
  unfold State.dataByte
  split
  · exact (course_takeWrite _ v s hl).advance
  · exact (course_readEffect s _ _).advance
  all_goals exact course_refl s

theorem course_selnFalling (s : State) : Course s true s.selnFalling := by
  unfold State.selnFalling
  split
  · exact (course_refl s).same rfl rfl rfl
  all_goals exact course_refl s

theorem course_headerByte (b : Byte) (s : State) : Course s true (s.headerByte b) := by
  unfold State.headerByte
  split
  · split <;> exact (course_refl s).same rfl rfl rfl
  all_goals exact course_refl s

theorem course_transferEnd (bits : Fin 8) (s : State) : Course s true (s.transferEnd bits) := by
  have hend : Course s true s.endTransfer := (course_refl s).same rfl rfl rfl
  unfold State.transferEnd
  split
  · exact hend.setFlagIf _ _
  · exact hend.setFlagIf _ _
  · exact hend
  · exact course_refl s

/-! ### The forms of a meaning -/

section Forms

variable {s t : State}

theorem course_whenLive {f : State → State} (hf : s.inReset = false → Course s true (f s))
    (h : whenLive f s = .next t) : Course s true t := by
  obtain rfl := Host.Outcome.next.inj h
  split
  · exact course_refl s
  · next hl => exact hf (by simpa using hl)

theorem course_writeRow {a : Addr} {f : State → State} (hf : s.inReset = false → Course s true (f s))
    (h : writeRow a f s = .next t) : Course s true t := by
  obtain ⟨hw, rfl⟩ | ⟨_, rfl⟩ := writeRow_cases h
  · exact (hf hw.1).advance
  · exact course_refl t

theorem course_readRow {p : Nat → Bool} (h : readRow p s = .next t) : Course s true t := by
  obtain rfl := Host.Outcome.next.inj h
  split
  · exact (course_readEffect s _ _).advance
  · exact course_refl s

theorem course_forOrder {f : SlotNo → State → State} (hf : ∀ i, Course s true (f i s)) (r : OrderRef) :
    Course s true (s.forOrder r f) := by
  unfold State.forOrder
  split
  · exact hf _
  · exact course_refl s

theorem course_forTimer {count : Move → Nat} {f : SlotNo → State → State} (hf : ∀ i, Course s true (f i s))
    (r : TimerRef) : Course s true (s.forTimer count r f) := by
  unfold State.forTimer
  split
  · exact course_forOrder hf _
  · exact course_refl s

theorem course_forLeg {f : LegNo → State → State} (hf : ∀ k, Course s true (f k s)) (r : LegRef) :
    Course s true (s.forLeg r f) := by
  unfold State.forLeg
  split
  · exact hf _
  · exact course_refl s

theorem course_forRestart {f : State → State} (hf : Course s true (f s)) (n : Nat) :
    Course s true (s.forRestart n f) := by
  unfold State.forRestart
  split
  · exact hf
  · exact course_refl s

end Forms

/-! ### Every step -/

theorem exec_course {c : Instr} {s t : State} (h : exec c s = .next t) : Course s true t := by
  cases c with
  | selnFalling => exact course_whenLive (fun _ => course_selnFalling s) h
  | headerByte b => exact course_whenLive (fun _ => course_headerByte b s) h
  | transferEnd bits => exact course_whenLive (fun _ => course_transferEnd bits s) h
  | registerWrite v => exact course_whenLive (course_dataByte v s) h
  | submit _ => exact course_writeRow (course_submitRequest s) h
  | apply _ => exact course_writeRow (fun _ => course_applyRequest s) h
  | actSelWrite v => exact course_writeRow (fun _ => course_writeActSel v s) h
  | flagsWrite v =>
    simp only [exec, execFlagsWrite] at h
    split at h <;> exact course_writeRow (fun _ => course_writeFlags _ v s) h
  | maskWrite v =>
    simp only [exec, execMaskWrite] at h
    split at h <;> exact course_writeRow (fun _ => course_writeMask _ v s) h
  | passlimWrite v => exact course_writeRow (fun _ => course_writePassLimit v s) h
  | warmcapWrite v => exact course_writeRow (fun _ => course_writeWarmCap v s) h
  | completionWindowRead => exact course_readRow h
  | completionPop => exact course_readRow h
  | positionRead => exact course_readRow h
  | run => exact course_writeRow (fun _ => course_cmdRun s) h
  | stop => exact course_writeRow (fun _ => course_cmdStop s) h
  | resume => exact course_writeRow (fun _ => course_cmdResume s) h
  | cancelAct => exact course_writeRow (fun _ => course_cmdCancelAct s) h
  | cancelTag => exact course_writeRow (fun _ => course_cancel _ s) h
  | cancelSlot => exact course_writeRow (fun _ => course_cmdCancelSlot s) h
  | cancelAll => exact course_writeRow (fun _ => course_cancel _ s) h
  | clearLeg => exact course_writeRow (fun _ => course_cmdClearLeg s) h
  | clearThermal => exact course_writeRow (fun _ => course_cmdClearThermal s) h
  | setPosition => exact course_writeRow (fun _ => course_cmdSetPosition s) h
  | motionReset => exact course_writeRow (fun _ => course_cmdMotionReset s) h
  | unknownCommand _ =>
    simp only [exec, execUnknownCommand] at h
    split at h
    · obtain rfl := Host.Outcome.next.inj h
      exact course_refl s
    · exact course_writeRow (fun _ => (course_refl s).result _) h
  | ripplePulse a => exact course_whenLive (fun _ => course_ripplePulse a s) h
  | rampExpiry r => exact course_whenLive (fun _ => course_forTimer (fun i => course_rampExpiry i s) r) h
  | windowExpiry r => exact course_whenLive (fun _ => course_forTimer (fun i => course_windowExpiry i s) r) h
  | timeoutExpiry r => exact course_whenLive (fun _ => course_forOrder (fun i => course_timeoutExpiry i s) r) h
  | brakeTimerExpiry r => exact course_whenLive (fun _ => course_forOrder (fun i => course_brakeTimerExpiry i s) r) h
  | fenceDelayExpiry r => exact course_whenLive (fun _ => course_forOrder (fun i => course_fenceDelayExpiry i s) r) h
  | suspendLimitExpiry r =>
    exact course_whenLive (fun _ => course_forTimer (fun i => course_suspendLimitExpiry i s) r) h
  | restartDelayExpiry run =>
    exact course_whenLive (fun _ => course_forRestart (course_restartDelayExpiry s) run) h
  | deadIntervalEnd r => exact course_whenLive (fun _ => course_forLeg (fun k => course_deadIntervalEnd k s) r) h
  | overCurrent r => exact course_whenLive (fun _ => course_forLeg (fun k => course_overCurrent k s) r) h
  | holdAsserted => exact course_whenLive (fun _ => course_holdAsserted s) h
  | holdReleased => exact course_whenLive (fun _ => course_holdReleased s) h
  | supplyOut => exact course_whenLive (fun _ => course_supplyOut s) h
  | supplyInRange => exact course_whenLive (fun _ => (course_refl s).supplyInRange) h
  | warnRise => exact course_whenLive (fun _ => course_warnRise s) h
  | warnFall => exact course_whenLive (fun _ => course_warnFall s) h
  | shutdownRise => exact course_whenLive (fun _ => course_shutdownRise s) h
  | shutdownFall => exact course_whenLive (fun _ => course_shutdownFall s) h
  | fullReset =>
    obtain rfl := Host.Outcome.next.inj h
    exact course_fullReset s
  | resetEnd die vbr holdLow selnLow =>
    obtain rfl := Host.Outcome.next.inj h
    exact course_resetEnd die vbr holdLow selnLow s
  | outerWindowReentry => exact course_whenLive (fun _ => course_outerWindowReentry s) h

/-- Every step is a course of changes that ends with every leg at its demand (R26). -/
theorem step_course {s t : State} (h : step s = .next t) : Course s true t := by
  unfold step at h
  split at h
  · exact (exec_course h).of_before rfl rfl rfl
  · unfold State.idle at h
    split at h
    · obtain rfl := Host.Outcome.next.inj h
      exact course_refl s
    · split at h
      · exact (exec_course h).of_before rfl rfl rfl
      · obtain rfl := Host.Outcome.next.inj h
        exact course_clocks s

/-! ### The laws every step keeps -/

/-- Settles O54: every change of the course of a step keeps the law of the two lists. -/
theorem stepKeepsPoolLaw : Obligations.StepKeepsPoolLaw := fun _ _ hs h => (step_course h).poolLaw hs

/-- Settles O55, by the course of the step: the laws of the claims are kept together by each of its changes. -/
theorem stepKeepsClaimLaws : Obligations.StepKeepsClaimLaws := fun _ _ hs h => (step_course h).claimLaws hs

/-- Settles O56: only starts add claims, under the bystander test (R77), and only an APPLY changes legs, under the
checks for pairs and conflicts (R10, R11). -/
theorem stepKeepsBystanderLaw : Obligations.StepKeepsBystanderLaw :=
  ⟨fun _ _ hc hb h => (step_course h).bystanderLaw hc hb, fun _ _ hs h => (step_course h).pairLaw hs⟩

/-- Settles O57: the course of a step ends with every leg at its demand, and each leg's run goes on through it. -/
theorem stepKeepsDemandLaw : Obligations.StepKeepsDemandLaw :=
  ⟨fun _ _ hp ho hs h => (step_course h).demandLaw hp ho hs rfl, fun _ _ k h => (step_course h).runsOn k⟩

/-- Settles O58, law by law along the course of the step. -/
theorem stepKeepsMoveAndMonitorLaws : Obligations.StepKeepsMoveAndMonitorLaws :=
  ⟨fun _ _ hs h => (step_course h).moveLaw hs, fun _ _ hp hs h => (step_course h).grantLaw hp hs,
    fun _ _ hp hl hs h => (step_course h).monitorLaw hp hl hs, fun _ _ hs h => (step_course h).thermalLaw hs,
    fun _ _ hs h => (step_course h).storeLaw hs, fun _ _ hw hs h => (step_course h).disabledLaw hw hs,
    fun _ _ hs h => (step_course h).serialLaw hs⟩

end Sys2Proof.Machine
end

section
/-! PROOF. The step, time and the two ends of a full reset; commands that do not arise; the header of a transfer; completion records. -/

namespace Sys2Proof.Machine

/-! ### The step and time (R87, R101) -/

theorem step_of_front {s : State} {c : Instr} {rest : List Instr} (h : s.pending = c :: rest) :
    step s = exec c { s with pending := rest } := by
  simp only [step, h]

theorem step_of_empty {s : State} (h : s.pending = []) : step s = s.idle := by
  simp only [step, h]

theorem idle_reset {s : State} (h : s.inReset = true) : s.idle = .next s := by
  simp only [State.idle, h, if_true]

theorem idle_none {s : State} (hl : s.inReset = false) (h : s.nextDue = none) : s.idle = .next s.clocks := by
  simp only [State.idle, hl, Bool.false_eq_true, if_false, h]

theorem idle_some {s : State} {c : Instr} (hl : s.inReset = false) (h : s.nextDue = some c) :
    s.idle = exec c { s with arrivals := s.arrivals + 1 } := by
  simp only [State.idle, hl, Bool.false_eq_true, if_false, h]

theorem dues_eq_nil {s : State} (h : ∀ c, ¬ s.expiryDue c) : s.dues = [] :=
  List.eq_nil_iff_forall_not_mem.2 fun c hc => h c ((mem_dues s c).1 hc)

theorem tick_driving {m : Move} (h : m.phase.driving = true) :
    m.tick = { m with
      driveTicks := m.driveTicks + 1, timeoutLeft := m.timeoutLeft.map (· - 1)
      rampTimer := if m.phase = .starting then m.rampTimer.map (· - 1) else m.rampTimer
      window := m.window.map (· - 1) } := by
  unfold Move.tick
  cases hp : m.phase <;> simp_all [Phase.driving, countDown]

theorem tick_braking {m : Move} (h : m.phase = .braking) :
    m.tick = { m with brakeTimer := m.brakeTimer.map (· - 1) } := by
  simp only [Move.tick, h, countDown]

theorem tick_held {m : Move} (h : m.phase = .held) : m.tick = m := by simp only [Move.tick, h]

theorem tick_suspended {m : Move} (h : m.phase = .suspended) :
    m.tick = { m with suspendTimer := m.suspendTimer.map (· - 1) } := by
  simp only [Move.tick, h, countDown]

theorem slotTick_of_not_active {x : SlotState} (h : x.isActive = false) : x.tick = x := by
  cases x with
  | active _ _ | waiting _ _ => cases h
  | _ => rfl

theorem legTick_of_not_brk {x : LegState} (h : ∀ d n, x ≠ .brk d n) : x.tick = x := by
  cases x with
  | brk d n => exact absurd rfl (h d n)
  | _ => rfl

theorem supplyTick_of_not_recovering {x : Supply} (h : ∀ n, x ≠ .recovering n) : x.tick = x := by
  cases x with
  | recovering n => exact absurd rfl (h n)
  | _ => rfl

/-- Settles O1. -/
theorem stepTakesFrontCommand : Obligations.StepTakesFrontCommand := fun _ _ _ => step_of_front

/-- Settles O2: with nothing due the step is a unit of time, read slot by slot and leg by leg. -/
theorem emptyQueueLetsTimePass : Obligations.EmptyQueueLetsTimePass := by
  intro s hq
  rw [step_of_empty hq]
  refine ⟨idle_reset, fun hl hd => ⟨s.clocks, idle_none hl (nextDue_eq_none s (dues_eq_nil hd)), ?_⟩⟩
  have hslot (i : SlotNo) {x : SlotState} (hx : s.slot i = x) : s.clocks.slot i = x.tick := by rw [slot_clocks, hx]
  have hleg := leg_clocks s
  have hsupply : s.clocks.supply = s.supply.tick := by rw [clocks_eq]
  refine ⟨?_, fun i o m hx hp => ?_, fun i o m hx hp => ?_, fun i o m hx hp => ?_, fun i o m hx hp => ?_,
    fun i o n hx => hslot i hx, fun i hx => ?_, fun k => ?_, fun k d n hk => ?_, fun k hk => ?_, fun n hn => ?_,
    fun hn => ?_⟩
  · rw [clocks_eq]
  · rw [hslot i hx, SlotState.tick, tick_driving hp]
  · rw [hslot i hx, SlotState.tick, tick_braking hp]
  · rw [hslot i hx, SlotState.tick, tick_held hp]
  · rw [hslot i hx, SlotState.tick, tick_suspended hp]
  · rw [hslot i rfl, slotTick_of_not_active hx]
  · rw [hleg]; exact ⟨rfl, rfl⟩
  · rw [hleg, hk]; rfl
  · rw [hleg]; exact legTick_of_not_brk hk
  · rw [hsupply, hn]; rfl
  · rw [hsupply, supplyTick_of_not_recovering hn]

/-- Settles O3: the expiry taken is one of those due, and so the one alone due. -/
theorem dueExpiriesAreTaken : Obligations.DueExpiriesAreTaken := by
  rintro s hq hl ⟨d, hd⟩
  obtain ⟨c, hc⟩ := nextDue_isSome s (List.ne_nil_of_mem ((mem_dues s d).2 hd))
  have hdue : s.expiryDue c := (mem_dues s c).1 (nextDue_mem s c hc)
  have hstep : step s = exec c { s with arrivals := s.arrivals + 1 } := by rw [step_of_empty hq, idle_some hl hc]
  exact ⟨⟨c, hdue, hstep⟩, fun e _ huniq => huniq c hdue ▸ hstep⟩

/-! ### The full reset (R181) -/

theorem leg_reset (k : LegNo) : State.reset.leg k = { state := .float, claims := [], run := 0 } :=
  Vector.getElem_replicate k.isLt

theorem slot_reset (i : SlotNo) : State.reset.slot i = .free := Vector.getElem_replicate i.isLt

theorem act_reset (a : ActNo) : State.reset.act a = Actuator.reset := Vector.getElem_replicate a.isLt

theorem fullReset_eq (s : State) :
    s.fullReset = { State.reset with
      legs := s.fullReset.legs, pending := s.pending, arrivals := s.arrivals, serial := s.serial
      restartRun := s.restartRun } := rfl

theorem leg_fullReset_run (s : State) (k : LegNo) : s.fullReset.leg k =
    { state := .float, claims := []
      run := if (s.leg k).state.conducting then (s.leg k).run + 1 else (s.leg k).run } := by
  have hfloat : LegState.float.conducting = false := rfl
  simp [leg_fullReset, Leg.enter, hfloat]

/-- Settles O4. -/
theorem fullResetGivesResetValues : Obligations.FullResetGivesResetValues :=
  ⟨fun s => ⟨s.fullReset, rfl, fullReset_eq s, leg_fullReset_run s⟩, act_reset, leg_reset, slot_reset, rfl, rfl, rfl,
    rfl, rfl, rfl, rfl, rfl, rfl, rfl, rfl, rfl, rfl, rfl, rfl, rfl, rfl, rfl, rfl, rfl, rfl, rfl, rfl, rfl, rfl, rfl,
    rfl, rfl, by decide, by decide⟩

theorem takeDie_eq (die : DieAtReset) (s : State) :
    s.takeDie die = { s with
      thermal := (s.takeDie die).thermal, warnSet := (s.takeDie die).warnSet
      shutdownSet := (s.takeDie die).shutdownSet } := by
  cases die <;> rfl

theorem takeVbr_reentry {s : State} (ho : s.supply = .out) (ha : s.armed = true) :
    s.takeVbr .reentry = { s with
      insideOuter := true, armed := false, supply := .recovering (s.settings.restart.toNat * 200000)
      restartRun := s.restartRun + 1 } := by
  simp only [State.takeVbr, State.supplyInRange, ha, if_true, State.recover, ho, hundredMs]

theorem takeVbr_eq {vbr : VbrAtReset} {s : State} (ho : s.supply = .out) (ha : s.armed = true) :
    s.takeVbr vbr = { s with
      supply := (s.takeVbr vbr).supply, insideOuter := (s.takeVbr vbr).insideOuter
      armed := (s.takeVbr vbr).armed, restartRun := (s.takeVbr vbr).restartRun } := by
  cases vbr with
  | reentry => rw [takeVbr_reentry ho ha]
  | _ => rfl

/-- Settles O5: the die decides the thermal fields, VBR the supply fields. -/
theorem resetEndTakesTheMonitors : Obligations.ResetEndTakesTheMonitors := by
  intro die vbr hold seln s hr ho ha
  have hdie := takeDie_eq die s
  have hout : (s.takeDie die).supply = .out := (congrArg State.supply hdie).trans ho
  have harmed : (s.takeDie die).armed = true := (congrArg State.armed hdie).trans ha
  have hrun : (s.takeDie die).restartRun = s.restartRun := (congrArg State.restartRun hdie).trans rfl
  have hsettings : (s.takeDie die).settings = s.settings := (congrArg State.settings hdie).trans rfl
  have hvbr := takeVbr_eq (vbr := vbr) hout harmed
  have hend : s.resetEnd die vbr hold seln = { (s.takeDie die).takeVbr vbr with
      inReset := false, holdOn := hold, port := if seln then .ignore else .idle } := if_pos hr
  refine ⟨s.resetEnd die vbr hold seln, rfl, ?_, ?_, ?_, ?_, ?_, ?_, ?_⟩ <;> rw [hend]
  · generalize (s.takeDie die).takeVbr vbr = x at hvbr ⊢
    generalize s.takeDie die = y at hdie hvbr
    rw [hvbr, hdie]
  · rintro rfl
    exact ⟨congrArg State.thermal hvbr, congrArg State.warnSet hvbr, congrArg State.shutdownSet hvbr⟩
  · rintro rfl
    exact ⟨congrArg State.thermal hvbr, congrArg State.warnSet hvbr, congrArg State.shutdownSet hvbr⟩
  · rintro rfl
    exact ⟨congrArg State.thermal hvbr, congrArg State.warnSet hvbr, congrArg State.shutdownSet hvbr⟩
  · rintro rfl
    exact ⟨hout, harmed, rfl, hrun⟩
  · rintro rfl
    exact ⟨hout, harmed, rfl, hrun⟩
  · rintro rfl
    dsimp only
    rw [takeVbr_reentry hout harmed, hsettings, hrun]
    exact ⟨rfl, rfl, rfl, rfl⟩

/-! ### Commands that do not arise -/

theorem exec_inReset {c : Instr} {s : State} (h : s.inReset = true) (hf : c ≠ .fullReset)
    (he : ∀ d v k l, c ≠ .resetEnd d v k l) : exec c s = .next s := by
  have hwrite {f : State → State} (a : Addr) : writeRow a f s = .next s :=
    writeRow_none a f s (not_writing_of_reset s h a)
  have hread {p : Nat → Bool} : readRow p s = .next s :=
    readRow_none p s fun a c hr => absurd hr (not_reading_of_reset s h a c)
  have hwhen {f : State → State} : whenLive f s = .next s := whenLive_reset f s h
  cases c with
  | fullReset => exact absurd rfl hf
  | resetEnd d v k l => exact absurd rfl (he d v k l)
  | submit _ | apply _ | actSelWrite _ | passlimWrite _ | warmcapWrite _ | run | stop | resume | cancelAct | cancelTag
  | cancelSlot | cancelAll | clearLeg | clearThermal | setPosition | motionReset => exact hwrite _
  | flagsWrite v =>
    simp only [exec, execFlagsWrite]
    split <;> exact hwrite _
  | maskWrite v =>
    simp only [exec, execMaskWrite]
    split <;> exact hwrite _
  | unknownCommand _ =>
    simp only [exec, execUnknownCommand]
    split
    · rfl
    · exact hwrite _
  | completionWindowRead | completionPop | positionRead => exact hread
  | _ => exact hwhen

theorem exec_unaddressed {c : Instr} {s : State} (hc : c.writeAddrs ≠ []) (h : ∀ a ∈ c.writeAddrs, ¬ s.Writing a) :
    exec c s = .next s := by
  have hwrite {f : State → State} (a : Addr) (ha : a ∈ c.writeAddrs) : writeRow a f s = .next s :=
    writeRow_none a f s (h a ha)
  cases c with
  | submit _ | apply _ | actSelWrite _ | passlimWrite _ | warmcapWrite _ | run | stop | resume | cancelAct | cancelTag
  | cancelSlot | cancelAll | clearLeg | clearThermal | setPosition | motionReset =>
    exact hwrite _ (by simp [Instr.writeAddrs])
  | flagsWrite v =>
    simp only [exec, execFlagsWrite]
    split <;> exact hwrite _ (by simp [Instr.writeAddrs])
  | maskWrite v =>
    simp only [exec, execMaskWrite]
    split <;> exact hwrite _ (by simp [Instr.writeAddrs])
  | unknownCommand _ =>
    simp only [exec, execUnknownCommand]
    split
    · rfl
    · exact hwrite _ (by simp [Instr.writeAddrs])
  | _ => exact absurd rfl hc

theorem isWindowRead_iff (a : Addr) : isWindowRead a.toNat = true ↔ 0x30 ≤ a ∧ a ≤ 0x38 := by
  simp only [isWindowRead, Bool.and_eq_true, decide_eq_true_eq, BitVec.le_def]
  rfl

theorem whenLive_same {f : State → State} {s : State} (h : f s = s) : whenLive f s = .next s := by
  rw [whenLive, h, ite_self]

theorem readRow_elsewhere {s : State} {b : Addr} (h : ∀ c, ¬ s.Reading b c) :
    readRow (· == b.toNat) s = .next s := by
  refine readRow_none _ s fun a c hr => ?_
  by_contra hab
  obtain rfl : a = b := BitVec.eq_of_toNat_eq (by simpa using hab)
  exact h c hr

theorem dataByte_idle {v : Byte} {s : State} (h : ∀ w a c, s.port ≠ .data w a c) : s.dataByte v = s := by
  unfold State.dataByte
  split
  · next hp => exact absurd hp (h _ _ _)
  · next hp => exact absurd hp (h _ _ _)
  all_goals rfl

theorem selnFalling_busy {s : State} (h : s.port ≠ .idle) : s.selnFalling = s := by
  unfold State.selnFalling
  split
  · next hp => exact absurd hp h
  all_goals rfl

theorem headerByte_late {b : Byte} {s : State} (h : ∀ st, s.port ≠ .header st) : s.headerByte b = s := by
  unfold State.headerByte
  split
  · next hp => exact absurd hp (h _)
  all_goals rfl

/-- Settles O6: by the forms of the meanings, each of which drops what does not arise. -/
theorem commandsThatDoNotArise : Obligations.CommandsThatDoNotArise := by
  refine ⟨fun _ _ => exec_inReset, fun d v h l s hl => ?_, fun _ _ => exec_unaddressed, fun s h => ?_,
    fun s h => readRow_elsewhere (b := 0x39) h, fun s h => readRow_elsewhere (b := 0x50) h,
    fun v s h => whenLive_same (dataByte_idle h), fun code s h => ?_, fun s h => whenLive_same (selnFalling_busy h),
    fun b s h => whenLive_same (headerByte_late h), fun n s h => ?_⟩
  · exact congrArg Host.Outcome.next (resetEnd_live d v h l hl)
  · refine readRow_none _ s fun a c hr => ?_
    by_contra hw
    exact h a c hr ((isWindowRead_iff a).1 (by simpa using hw))
  · exact if_pos (List.contains_iff_mem.2 h)
  · refine whenLive_same ?_
    rw [State.transferEnd, h]

/-! ### The header of a transfer (R166, R152) -/

theorem setWidth_eq_iff {a b : Byte} (ha : a.getLsbD 7 = false) (hb : b.getLsbD 7 = false) :
    b.setWidth 7 = a.setWidth 7 ↔ b = a := by
  refine ⟨fun h => ?_, fun h => by rw [h]⟩
  refine BitVec.eq_of_getLsbD_eq fun i hi => ?_
  obtain hi7 | rfl : i < 7 ∨ i = 7 := by omega
  · simpa [hi7] using congrArg (fun x : BitVec 7 => x.getLsbD i) h
  · rw [ha, hb]

theorem exec_headerByte_live {b : Byte} {s : State} (hl : s.inReset = false) {st : Byte} (hp : s.port = .header st) :
    exec (.headerByte b) s = .next
      (if b.getLsbD 7 then { s with port := .data true (b.setWidth 7) noByte } else s.beginRead (b.setWidth 7)) := by
  refine (whenLive_live _ s hl).trans ?_
  rw [State.headerByte, hp]

theorem exec_headerByte_write {b : Byte} {s : State} (hl : s.inReset = false) {st : Byte} (hp : s.port = .header st)
    (hb : b.getLsbD 7 = true) :
    exec (.headerByte b) s = .next { s with port := .data true (b.setWidth 7) noByte } := by
  rw [exec_headerByte_live hl hp, if_pos hb]

theorem exec_headerByte_read {b : Byte} {s : State} (hl : s.inReset = false) {st : Byte} (hp : s.port = .header st)
    (hb : b.getLsbD 7 = false) :
    exec (.headerByte b) s =
      .next { s with
        port := .data false (b.setWidth 7) (s.capture (b.setWidth 7))
        shadowFinal := if s.emptyView ∧ b = 0x34 then some 0 else s.shadowFinal
        shadowDriven := if s.emptyView ∧ b = 0x36 then some 0 else s.shadowDriven } := by
  have h34 : b.setWidth 7 = 0x34 ↔ b = 0x34 := setWidth_eq_iff (a := 0x34) rfl hb
  have h36 : b.setWidth 7 = 0x36 ↔ b = 0x36 := setWidth_eq_iff (a := 0x36) rfl hb
  rw [exec_headerByte_live hl hp, if_neg (by rw [hb]; exact Bool.false_ne_true), State.beginRead]
  simp only [h34, h36]

theorem exec_transferEnd_data {s : State} {w : Bool} {a : Addr} {c : Captured} (hl : s.inReset = false)
    (hp : s.port = .data w a c) : exec (.transferEnd 0) s = .next s.endTransfer := by
  rw [exec_transferEnd_live 0 s hl, transferEnd_data 0 hp]
  rfl

/-- Settles O8: a header opens a transfer, and the transfer ended at once leaves what its header did not write. -/
theorem headerByteOpensTransfer : Obligations.HeaderByteOpensTransfer := by
  refine fun st b s hl hp => ⟨exec_headerByte_write hl hp, exec_headerByte_read hl hp, fun t ht => ?_⟩
  cases hb : b.getLsbD 7 with
  | true =>
    rw [exec_headerByte_write hl hp hb] at ht
    obtain rfl := Host.Outcome.next.inj ht
    exact exec_transferEnd_data hl rfl
  | false =>
    rw [exec_headerByte_read hl hp hb] at ht
    obtain rfl := Host.Outcome.next.inj ht
    exact exec_transferEnd_data hl rfl

/-! ### The laws at State.reset -/

/-- Settles O59: no slot holds an order and no leg a claim. -/
theorem lawsHoldAtReset : Obligations.LawsHoldAtReset := by
  have hclaims (k : LegNo) : (State.reset.leg k).claims = [] := by rw [leg_reset]
  have hacts (a : ActNo) : (State.reset.act a).config.enabled = false := by rw [act_reset]; rfl
  have hpool : State.reset.PoolLaw :=
    ⟨List.nodup_nil, List.nodup_nil, fun i => by rw [slot_reset]; exact ⟨nofun, nofun⟩,
      fun i => by rw [slot_reset]; exact ⟨nofun, nofun⟩⟩
  have hkind : State.reset.KindLaw := fun i => by rw [slot_reset]; rfl
  have hactive : State.reset.ActiveSlotLaw := fun a i => by rw [slot_reset, act_reset]; exact ⟨nofun, nofun⟩
  have hwiring : State.reset.WiringLaw :=
    ⟨fun a => by rw [act_reset]; rfl, fun a i h => by rw [slot_reset] at h; cases h⟩
  refine ⟨⟨hpool, hkind, hactive, hwiring, claimLaw_of_empty hclaims slot_reset, driveLaw_of_empty hclaims,
    fun k _ => hclaims k⟩, fun b hb => ?_, fun a b _ ha => ?_,
    demandLaw_of_unclaimed fun k => ⟨hclaims k, .inr (by rw [leg_reset])⟩, fun i => ?_, fun i => ?_,
    ⟨fun i => ?_, fun _ => slot_reset⟩, ⟨rfl, rfl⟩, storeLaw_reset, fun a _ => by rw [act_reset]; rfl,
    fun i => ?_, fun i j _ h => ?_⟩
  · rw [Actuator.bystander, hacts] at hb
    cases hb
  · rw [hacts] at ha
    cases ha
  · rw [slot_reset]; rfl
  · rw [slot_reset]; exact ⟨nofun, nofun⟩
  · rw [slot_reset]; rfl
  · rw [slot_reset]; rfl
  · rw [slot_reset] at h
    exact absurd rfl h

/-! ### Completion records (R44, R52) -/

theorem min_div_drivingUnit (n : Nat) : min 255 (n / 200000) = if n < 51000000 then n / 200000 else 255 := by
  split <;> omega

theorem drivingTime_eq (m : Move) :
    m.drivingTime = if m.driveTicks < 51000000 then BitVec.ofNat 8 (m.driveTicks / 200000) else 255 := by
  rw [Move.drivingTime, min_div_drivingUnit, apply_ite (BitVec.ofNat 8)]
  rfl

/-- Settles O60: a record by what its slot held, and a DONE slot through the course of a step. -/
theorem recordHoldsTheEnding : Obligations.RecordHoldsTheEnding := by
  refine ⟨fun o e p s hp => ?_, fun _ _ => rfl, fun _ _ _ => rfl, fun i r s t hs h => (step_course h).done hs⟩
  subst hp
  refine ⟨rfl, fun _ => rfl, fun m => ?_⟩
  rw [← drivingTime_eq]
  rfl

end Sys2Proof.Machine
end

section
/-! PROOF. The legs' reaction and demand (R21, R25 to R30), the walk of a pass (R68 to R73), and the start-time checks (R74, R75). -/

namespace Sys2Proof.Machine

/-! ### Legs (R21, R25 to R30) -/

theorem state_settle (s : State) (k : LegNo) :
    (s.settle.leg k).state = (s.leg k).state.react s.deadTicks (s.demand k) := by
  rw [leg_settle, enter_state]

theorem run_enter (l : Leg) (x : LegState) :
    (l.enter x).run = if l.state.conducting = true ∧ x.conducting = false then l.run + 1 else l.run := by
  cases h : l.state.conducting <;> cases hx : x.conducting <;> simp [Leg.enter, h, hx]

theorem conducting_iff (x : LegState) : x.conducting = true ↔ x = .low ∨ x = .high ∨ x = .mod ∨ x = .ext := by
  cases x <;> simp [LegState.conducting]

/-- A leg that enters a state from one in which it did not conduct goes on with its run. -/
theorem enter_of_not_conducting {l : Leg} (x : LegState) (h : l.state.conducting = false) :
    l.enter x = { l with state := x } := by
  simp [Leg.enter, h]

theorem setLeg_self (s : State) (k : LegNo) : s.setLeg k (s.leg k) = s := by
  simp [State.setLeg, State.leg]

theorem endBreak_of_not_brk {x : LegState} (h : ∀ d n, x ≠ .brk d n) : x.endBreak = x := by
  cases x with
  | brk d n => exact absurd rfl (h d n)
  | _ => rfl

theorem deadIntervalEnd_brk {s : State} {k : LegNo} {d : Demand} {n : Nat} (h : (s.leg k).state = .brk d n) :
    s.deadIntervalEnd k = s.setLeg k { s.leg k with state := d.state } := by
  rw [State.deadIntervalEnd, enter_of_not_conducting _ (by rw [h]; rfl), h]
  rfl

theorem deadIntervalEnd_other {s : State} {k : LegNo} (h : ∀ d n, (s.leg k).state ≠ .brk d n) :
    s.deadIntervalEnd k = s := by
  rw [State.deadIntervalEnd, endBreak_of_not_brk h, enter_self, setLeg_self]

/-- Settles O40: row by row from the table of R30. -/
theorem legReactions : Obligations.LegReactions := by
  refine ⟨fun k s => ?_, fun k s h => ?_, fun k s h hd => ?_, fun k s h => ?_, fun k s h hd => ?_, fun k s h hd => ?_,
    fun k s h => ⟨fun hd => ?_, fun hd => ?_⟩, fun k d n s h hd => ?_, fun s => ?_, fun k d n s hl h => ?_,
    fun r s h => ?_, conducting_iff, fun k s => ?_⟩
  · rw [leg_settle, enter_claims]
  · rw [state_settle, h]; rfl
  · rw [state_settle, hd]
    cases hx : (s.leg k).state with
    | off => exact absurd hx h
    | _ => rfl
  · rw [state_settle, h]; rfl
  · rw [state_settle, h, hd]; rfl
  · rw [state_settle, h]
    obtain hd | hd | hd := hd <;> rw [hd] <;> rfl
  · rw [state_settle, hd]
    obtain h | h | h := h <;> rw [h] <;> rfl
  · rw [state_settle]
    obtain h | h | h := h
    all_goals
      rw [h]
      cases hx : s.demand k with
      | low => exact absurd hx hd
      | _ => rfl
  · rw [state_settle, h]
    cases hx : s.demand k with
    | float => exact absurd hx hd
    | _ => rfl
  · simp only [State.settle, State.mapLegs]
  · refine (whenLive_live _ s hl).trans ?_
    rw [forLeg_own s _ _ rfl, deadIntervalEnd_brk h]
  · refine whenLive_same ?_
    obtain h | h := h
    · unfold State.forLeg
      rw [deadIntervalEnd_other h, ite_self]
    · exact forLeg_other s r _ h
  · rw [leg_settle, run_enter, enter_state]

theorem demand_of_unclaimed {s : State} {k : LegNo} (h : (s.leg k).claims = []) : s.demand k = .float := by
  rw [State.demand, h]
  rfl

theorem demand_of_drive {s : State} {k : LegNo} {i : SlotNo} {o : Order} {m : Move}
    (h : (s.leg k).claims = [⟨i, .drive⟩]) (hx : s.slot i = .active o m) : s.demand k = driveDemand m := by
  have hfind : ([⟨i, .drive⟩] : List Claim).find? (fun c => c.type == .drive) = some ⟨i, .drive⟩ := rfl
  rw [State.demand, h, hfind]
  dsimp only
  rw [hx]
  rfl

theorem demand_of_returns {s : State} {k : LegNo} (h : ∀ c ∈ (s.leg k).claims, c.type = .ret) :
    s.demand k = if (s.leg k).claims.any s.keepsLow then .low else .float := by
  have hfind : (s.leg k).claims.find? (fun c => c.type == .drive) = none := by
    rw [List.find?_eq_none]
    intro c hc
    rw [h c hc]
    decide
  rw [State.demand, hfind]

theorem keepsLow_active {s : State} {c : Claim} {o : Order} {m : Move} (h : s.slot c.slot = .active o m) :
    s.keepsLow c = (m.phase != .suspended) := by
  rw [State.keepsLow, h]
  rfl

theorem legDuty_of_drive {s : State} {k : LegNo} {i : SlotNo} {o : Order} {m : Move}
    (h : (s.leg k).claims = [⟨i, .drive⟩]) (hx : s.slot i = .active o m) : s.legDuty k = m.duty := by
  have hfind : ([⟨i, .drive⟩] : List Claim).find? (fun c => c.type == .drive) = some ⟨i, .drive⟩ := rfl
  have hdriver : s.driver k = some m := by
    rw [State.driver, h, hfind]
    exact congrArg SlotState.move hx
  rw [State.legDuty, hdriver]

theorem driveDemand_driving {m : Move} (h : m.phase.driving = true) :
    driveDemand m = if m.extHeld then .ext else if m.duty < 64 then .mod else .high := by
  unfold driveDemand
  cases hp : m.phase with
  | starting | running | approaching => rfl
  | braking | held | suspended => rw [hp] at h; cases h

/-- Settles O41. -/
theorem demandFollowsClaims : Obligations.DemandFollowsClaims := by
  intro k s
  refine ⟨demand_of_unclaimed, fun i o m hc hx => ?_, fun hr => ⟨?_, fun hall => ?_⟩, fun h => ?_, fun h => ?_,
    fun h => ?_, fun i o m h hc hx => ?_, fun h => ?_, fun h => ?_⟩
  · rw [demand_of_drive hc hx]
    refine ⟨fun hd he => ?_, fun hd he hlt => ?_, fun hd he heq => ?_, fun hp => ?_, fun hp => ?_⟩
    · rw [driveDemand_driving hd, if_pos he]
    · rw [driveDemand_driving hd, he, if_neg Bool.false_ne_true, if_pos hlt]
    · rw [driveDemand_driving hd, he, heq]
      rfl
    · obtain hp | hp := hp <;> simp only [driveDemand, hp]
    · simp only [driveDemand, hp]
  · rintro ⟨c, hc, o, m, hx, hp⟩
    rw [demand_of_returns hr, if_pos (List.any_eq_true.2 ⟨c, hc, by simp [keepsLow_active hx, hp]⟩)]
  · rw [demand_of_returns hr, if_neg]
    rw [List.any_eq_true]
    rintro ⟨c, hc, hlow⟩
    obtain ⟨o, m, hx, hp⟩ := hall c hc
    simp [keepsLow_active hx, hp] at hlow
  · obtain h | h | ⟨d, n, h⟩ := h <;> simp only [State.highSide, State.lowSide, h] <;> exact ⟨rfl, rfl⟩
  · simp only [State.highSide, State.lowSide, h]; exact ⟨rfl, rfl⟩
  · simp only [State.highSide, State.lowSide, h]; exact ⟨rfl, rfl⟩
  · rw [State.highSide, h, legDuty_of_drive hc hx]
    rfl
  · rw [State.lowSide, h]
    rfl
  · simp only [State.highSide, State.lowSide, h]; exact ⟨rfl, rfl⟩

/-! ### The walk at one slot (R71, R72) -/

theorem walk_fence {s : State} {i : SlotNo} {o : Order} (rest : List SlotNo) (h : s.slot i = .queued o)
    (hk : o.kind = .fence) : s.walk (i :: rest) = s.reachFence i o := by
  simp only [State.walk, h, hk, if_true]

theorem walk_move {s : State} {i : SlotNo} {o : Order} (rest : List SlotNo) (h : s.slot i = .queued o)
    (hk : o.kind ≠ .fence) : s.walk (i :: rest) = (s.reachMove i o).walk rest := by
  simp only [State.walk, h, hk, if_false]

/-- Settles O47. -/
theorem walkStopsAtFences : Obligations.WalkStopsAtFences := by
  refine ⟨fun i rest o s h hk => ⟨fun hold => ?_, fun hnone => ?_⟩, fun i rest o n s h => ?_, fun i rest o m s h => ?_⟩
  · obtain ⟨j, hj, ho⟩ := hold
    have hany : (s.older i).any (fun j => (s.slot j).isQueued || (s.slot j).isActive) = true :=
      List.any_eq_true.2 ⟨j, hj, ho⟩
    rw [walk_fence rest h hk, State.reachFence, if_pos hany]
  · have hwalk : s.walk (i :: rest) = if o.arg = 0 then s.endOrder .done i else s.setSlot i (.waiting o o.delay) := by
      rw [walk_fence rest h hk, State.reachFence, if_neg]
      rw [List.any_eq_true]
      rintro ⟨j, hj, ho⟩
      rw [hnone j hj] at ho
      cases ho
    refine ⟨fun ha => ?_, fun ha => ?_⟩
    · rw [hwalk, if_pos ha]
      exact afterEndings_endOrder .done s i (holdsOrder_queued h)
    · rw [hwalk, if_neg ha]
      rfl
  · simp only [State.walk, h]
  · simp only [State.walk, h]

theorem queuedFor_iff (x : SlotState) (a : ActNo) :
    x.queuedFor a = false ↔ ∀ p, x = .queued p → p.kind = .fence ∨ p.actuator ≠ a := by
  cases x with
  | queued p =>
    simp only [SlotState.queuedFor, SlotState.isQueued, SlotState.ordersFor, SlotState.order, Bool.true_and,
      Bool.and_eq_false_iff, bne_eq_false_iff_eq, beq_eq_false_iff_ne, SlotState.queued.injEq, forall_eq']
  | _ => exact ⟨fun _ => nofun, fun _ => rfl⟩

theorem sharesLeg_eq_false_iff (c d : ActConfig) :
    sharesLeg c d = false ↔ c.posLeg ≠ d.posLeg ∧ c.posLeg ≠ d.negLeg ∧ c.negLeg ≠ d.posLeg ∧ c.negLeg ≠ d.negLeg := by
  simp only [sharesLeg, Bool.or_eq_false_iff, beq_eq_false_iff_ne, and_assoc]

theorem presses_iff (limit : Byte) (pass : BitVec 4) :
    presses limit pass = true ↔ limit ≠ 0 ∧ limit.toNat ≤ pass.toNat := by
  simp [presses]

theorem pressing_queued_iff (limit : Byte) (o : Order) :
    (SlotState.queued o).pressing limit = true ↔ o.kind ≠ .fence ∧ limit ≠ 0 ∧ limit.toNat ≤ o.pass.toNat := by
  simp only [SlotState.pressing, Bool.and_eq_true, bne_iff_ne, presses_iff]

theorem pressing_iff (limit : Byte) (x : SlotState) :
    x.pressing limit = true ↔
      ∃ o, x = .queued o ∧ o.kind ≠ .fence ∧ limit ≠ 0 ∧ limit.toNat ≤ o.pass.toNat := by
  cases x with
  | queued o => simp only [pressing_queued_iff, SlotState.queued.injEq, exists_eq_left']
  | _ => exact ⟨nofun, fun ⟨_, h, _⟩ => (nomatch h)⟩

theorem pressesOn_eq_false_iff (s : State) (c : ActConfig) (j : SlotNo) :
    s.pressesOn c j = false ↔ ∀ p, s.slot j = .queued p → p.kind ≠ .fence → s.settings.passLimit ≠ 0 →
      s.settings.passLimit.toNat ≤ p.pass.toNat →
      (s.config p).posLeg ≠ c.posLeg ∧ (s.config p).posLeg ≠ c.negLeg ∧ (s.config p).negLeg ≠ c.posLeg ∧
        (s.config p).negLeg ≠ c.negLeg := by
  unfold State.pressesOn
  cases hx : s.slot j with
  | queued p =>
    simp only [Bool.and_eq_false_iff, SlotState.order, sharesLeg_eq_false_iff, SlotState.queued.injEq, forall_eq']
    rw [← Bool.not_eq_true, pressing_queued_iff]
    tauto
  | _ => exact ⟨fun _ => nofun, fun _ => rfl⟩

theorem considered_iff (s : State) (i : SlotNo) (o : Order) :
    s.considered i o = true ↔
      (∀ j ∈ s.older i, (s.slot j).queuedFor o.actuator = false) ∧ (s.act o.actuator).activeSlot = none ∧
        ∀ j ∈ s.older i, s.pressesOn (s.config o) j = false := by
  simp only [State.considered, Bool.and_eq_true, List.all_eq_true, Bool.not_eq_true', Option.isNone_iff_eq_none,
    and_assoc]

/-- Settles O48: the walk at a QUEUED move order by what `reachMove` makes of it. -/
theorem walkJudgesMoveOrders : Obligations.WalkJudgesMoveOrders := by
  intro i rest o s h hk
  rw [walk_move rest h hk, State.reachMove]
  refine ⟨?_, fun hc => ?_, fun e hc he => ?_, fun hc he ht => ?_, fun hc he ht => ?_⟩
  · simp only [considered_iff, queuedFor_iff, pressesOn_eq_false_iff]
    rfl
  · rw [hc]
    rfl
  · refine ⟨_, afterEndings_endOrder e s i (holdsOrder_queued h), ?_⟩
    rw [hc, if_pos rfl, he]
  · rw [hc, if_pos rfl, he]
    dsimp only
    rw [ht]
    rfl
  · rw [hc, if_pos rfl, he]
    dsimp only
    rw [ht]
    rfl

/-! ### The start-time checks (R74, R75) -/

theorem target_seekEnd {s : State} {o : Order} (h : o.kind = .seekEnd) : s.target o = none := by
  simp only [State.target, h]

theorem target_moveTo {s : State} {o : Order} (h : o.kind = .moveTo) : s.target o = some o.arg.toInt := by
  simp only [State.target, h]

theorem target_moveBy {s : State} {o : Order} (h : o.kind = .moveBy) :
    s.target o = some (s.position o + o.arg.toInt) := by
  simp only [State.target, h]

theorem startEnding_none {s : State} {o : Order} (hp : s.offAt (s.config o).posLeg = false)
    (hn : s.offAt (s.config o).negLeg = false) (ht : s.target o = none) : s.startEnding o = none := by
  simp only [State.startEnding, hp, hn, ht, Bool.or_self, Bool.false_eq_true, if_false]

theorem startEnding_some {s : State} {o : Order} {t : Int} (hp : s.offAt (s.config o).posLeg = false)
    (hn : s.offAt (s.config o).negLeg = false) (ht : s.target o = some t) :
    s.startEnding o =
      if (s.act o.actuator).valid = false then some .noReference
      else if o.kind = .moveBy ∧ outOfRange (s.config o) t then some .range
      else if t = s.position o then some .done
      else none := by
  simp only [State.startEnding, hp, hn, ht, Bool.or_self, Bool.false_eq_true, if_false]

theorem toInt_eq_zero_iff (v : Half) : v.toInt = 0 ↔ v = 0 := by
  refine ⟨fun h => BitVec.eq_of_toInt_eq h, fun h => by rw [h]; rfl⟩

/-- Settles O49: the checks in the order of R75. -/
theorem startTimeChecks : Obligations.StartTimeChecks := by
  rintro o s p rfl
  refine ⟨fun h => ?_, fun hpos hneg => ⟨fun hk => startEnding_none hpos hneg (target_seekEnd hk), fun hk hv => ?_,
    fun hk hv hr => ?_, fun hk hv hr => ?_, fun hk hv => ?_⟩⟩
  · rw [State.startEnding, if_pos (by simpa using h)]
  · obtain hk | hk := hk
    · rw [startEnding_some hpos hneg (target_moveTo hk), if_pos hv]
    · rw [startEnding_some hpos hneg (target_moveBy hk), if_pos hv]
  · rw [startEnding_some hpos hneg (target_moveBy hk), if_neg (by simp [hv]), if_pos ⟨hk, (outOfRange_iff _ _).2 hr⟩]
  · rw [startEnding_some hpos hneg (target_moveBy hk), if_neg (by simp [hv]),
      if_neg fun h => hr ((outOfRange_iff _ _).1 h.2)]
    refine if_congr ?_ rfl rfl
    rw [add_eq_left, toInt_eq_zero_iff]
  · rw [startEnding_some hpos hneg (target_moveTo hk), if_neg (by simp [hv]), if_neg fun h => by simp [hk] at h]
    rfl

end Sys2Proof.Machine
end

section
/-! PROOF. The series of passes (R68), the compatibility tests (R76 to R78), the start (R79 to R81) and the drive period (R88 to R94). -/

namespace Sys2Proof.Machine

/-! ### The series of passes (R68) -/

theorem poolLaw_pass {s : State} (h : s.PoolLaw) : s.pass.PoolLaw := by
  have hs := pass_steps s
  generalize s.pass = t at hs
  induction hs with
  | refl => exact h
  | tail _ hstep ih => exact Change.poolLaw (.walks hstep.1 hstep.2) ih

/-- With sixteen slots DONE no order is left, and a pass does nothing (R43). -/
theorem pass_of_all_done {s : State} (h : s.PoolLaw) (hl : 16 ≤ s.completion.length) : s.pass = s := by
  obtain ⟨-, hnd, hacc, hdone⟩ := h
  have hall : ∀ i, i ∈ s.completion := by
    have hcard : s.completion.toFinset = Finset.univ := by
      refine Finset.eq_univ_of_card _ (le_antisymm (Finset.card_le_univ _) ?_)
      rw [List.toFinset_card_of_nodup hnd, Fintype.card_fin]
      exact hl
    intro i
    rw [← List.mem_toFinset, hcard]
    exact Finset.mem_univ i
  have hnil : s.acceptance = [] := by
    refine List.eq_nil_iff_forall_not_mem.2 fun i hi => ?_
    have hd := (hdone i).1 (hall i)
    have ha := (hacc i).1 hi
    cases hx : s.slot i <;> simp_all [SlotState.isDone, SlotState.isQueued, SlotState.isActive]
  unfold State.pass
  rw [hnil]
  exact ite_self s

theorem passes_step (n : Nat) (s : State) :
    s.passes (n + 1) = if s.completion.length < s.pass.completion.length then s.pass.passes n else s.pass := rfl

/-- Each pass that is followed by another has ended an order, so that sixteen further passes are enough (R68). -/
theorem passes_succ (n : Nat) : ∀ {s : State}, s.PoolLaw → 16 ≤ s.completion.length + n →
    s.passes (n + 1) = s.passes n := by
  induction n with
  | zero =>
    intro s hp hl
    rw [passes_step, pass_of_all_done hp hl, if_neg (lt_irrefl _)]
    rfl
  | succ n ih =>
    intro s hp hl
    rw [passes_step (n + 1), passes_step n s]
    split
    · next hlt => exact ih (poolLaw_pass hp) (by omega)
    · rfl

/-- What a step of a walk keeps of the entries and of the flags (R4, R81). -/
theorem WalkStep.passFrame {s t : State} (h : WalkStep s t) : s.passFrame t := by
  have hend (e : Ending) (i : SlotNo) : s.passFrame (s.endOrder e i) := by
    refine ⟨sameOutside_endOrder s e i, fun a => ?_, .inl (flags_endOrder s e i)⟩
    have ha := act_endOrder s e i a
    split at ha <;> rw [ha]
  cases h with
  | endsAtStart i o e => exact hend e i
  | fenceEnds i o => exact hend .done i
  | fenceWaits i o => exact ⟨rfl, fun _ => rfl, .inl rfl⟩
  | starts i o =>
    have hact (a : ActNo) : (s.startMove i o).act a = (s.startClaims i o).act a := by
      rw [startMove_eq, State.settle, mapLegs_actAt, act_raiseOlder]
    refine ⟨sameOutside_startMove s i o, fun a => ?_, ?_⟩
    · rw [hact, act_startClaims]
      split <;> rfl
    · obtain ⟨-, -, -, hflags⟩ := lists_startClaims s i o
      rw [startMove_eq, flags_settle, State.raiseOlder, setFlagIf_eq]
      dsimp only
      rw [mapSlots_flags, hflags]
      split
      · exact .inr rfl
      · exact .inl rfl

theorem passFrame_trans {s t u : State} (h : s.passFrame t) (k : t.passFrame u) : s.passFrame u := by
  obtain ⟨h1, h2, h3⟩ := h
  obtain ⟨k1, k2, k3⟩ := k
  refine ⟨sameOutside_trans h1 k1, fun a => by rw [k2, h2], ?_⟩
  obtain k3 | k3 := k3
  · rw [k3]
    exact h3
  · obtain h3 | h3 := h3
    · exact .inr (by rw [k3, h3])
    · exact .inr (by rw [k3, h3, BitVec.or_assoc, BitVec.or_self])

theorem passFrame_dispatch (s : State) : s.passFrame s.dispatch :=
  dispatch_induct s.passFrame s ⟨sameOutside_refl s, fun _ => rfl, .inl rfl⟩ fun _ _ ht _ hw =>
    passFrame_trans ht hw.passFrame

/-- Settles O46: seventeen passes are as good as any greater number, and every step of a walk is inside the frame. -/
theorem dispatchIsASeriesOfPasses : Obligations.DispatchIsASeriesOfPasses := by
  refine ⟨fun s hp hl => ?_, fun s hl => ?_, passFrame_dispatch⟩
  · rw [State.dispatch, passes_step, if_pos hl]
    exact (passes_succ 16 (poolLaw_pass hp) (by omega)).symm
  · rw [State.dispatch, passes_step, if_neg (by omega)]

/-! ### The compatibility tests (R76 to R78) -/

theorem drivenAt_some {s : State} {f : LegField} {k : LegNo} (h : legOf f = some k) :
    s.drivenAt f = (s.leg k).driven := by
  rw [State.drivenAt, h]

theorem claimedAt_some {s : State} {f : LegField} {k : LegNo} (h : legOf f = some k) :
    s.claimedAt f = (s.leg k).claimed := by
  rw [State.claimedAt, h]

theorem claimed_iff (l : Leg) : l.claimed = true ↔ l.claims ≠ [] := by
  simp [Leg.claimed]

/-- A configuration would be driven across if both its legs exist, one under a DRIVE claim and the other claimed. -/
theorem drivenAcross_iff (s : State) (c : ActConfig) :
    s.drivenAcross c = true ↔ ∃ p n, legOf c.posLeg = some p ∧ legOf c.negLeg = some n ∧
      (((s.leg p).driven = true ∧ (s.leg n).claimed = true) ∨
        ((s.leg n).driven = true ∧ (s.leg p).claimed = true)) := by
  unfold State.drivenAcross State.drivenAt State.claimedAt
  cases hp : legOf c.posLeg <;> cases hn : legOf c.negLeg <;> simp

theorem driven_withClaims {s : State} {o : Order} {d r : LegNo}
    (hd : legOf (driveLeg (s.config o) (s.direction o)) = some d)
    (hr : legOf (returnLeg (s.config o) (s.direction o)) = some r) (hne : d ≠ r) (i : SlotNo) (k : LegNo) :
    ((s.withClaims i o).leg k).driven = true ↔ k = d ∨ ∃ c ∈ (s.leg k).claims, c.type = .drive := by
  rw [leg_withClaims hd hr hne, driven_iff]
  split
  · next h => simp [h, Leg.addClaim]
  · next h =>
    split
    · next hk => simp [hk, hne.symm, Leg.addClaim]
    · simp [h]

theorem claimed_withClaims {s : State} {o : Order} {d r : LegNo}
    (hd : legOf (driveLeg (s.config o) (s.direction o)) = some d)
    (hr : legOf (returnLeg (s.config o) (s.direction o)) = some r) (hne : d ≠ r) (i : SlotNo) (k : LegNo) :
    ((s.withClaims i o).leg k).claimed = true ↔ k = d ∨ k = r ∨ (s.leg k).claims ≠ [] := by
  rw [leg_withClaims hd hr hne, claimed_iff]
  split
  · next h => simp [h, Leg.addClaim]
  · next h =>
    split
    · next hk => simp [hk, Leg.addClaim]
    · next hk => simp [h, hk]

theorem enabled_iff (c : ActConfig) : c.enabled = true ↔ c.enable = 1 := by
  simp [ActConfig.enabled]

theorem bystander_iff (e : Actuator) : e.bystander = true ↔ e.config.enable = 1 ∧ e.activeSlot = none := by
  simp [Actuator.bystander, enabled_iff]

theorem bystanderTest_iff (s : State) (i : SlotNo) (o : Order) :
    s.bystanderTest i o = true ↔ ∀ b, b ≠ o.actuator → (s.act b).bystander = true →
      ¬ (s.withClaims i o).drivenAcross (s.act b).config = true := by
  simp only [State.bystanderTest, List.all_eq_true, List.mem_finRange, true_implies, Bool.or_eq_true, beq_iff_eq,
    Bool.not_eq_true', Bool.not_eq_true]
  refine forall_congr' fun b => ?_
  cases (s.act b).bystander <;> simp [or_iff_not_imp_left]

/-- Settles O50: test by test, with the claims of the candidate read leg by leg. -/
theorem compatibilityTests : Obligations.CompatibilityTests := by
  intro i o d r s hd hr hne
  have hleg : s.legTest o = true ↔ (s.leg d).claims = [] ∧ ∀ c ∈ (s.leg r).claims, c.type ≠ .drive := by
    rw [State.legTest, claimedAt_some hd, drivenAt_some hr, Bool.and_eq_true, Bool.not_eq_true', Bool.not_eq_true',
      ← Bool.not_eq_true, ← Bool.not_eq_true, claimed_iff, driven_iff]
    simp
  have hext : s.extTest o = true ↔ (o.ext = true → s.grant = none) := by
    cases h : o.ext <;> simp [State.extTest, h]
  have hby : s.bystanderTest i o = true ↔
      ∀ b p q, b ≠ o.actuator → (s.act b).config.enable = 1 → (s.act b).activeSlot = none →
        legOf (s.act b).config.posLeg = some p → legOf (s.act b).config.negLeg = some q →
        ¬ ((p = d ∨ ∃ c ∈ (s.leg p).claims, c.type = .drive) ∧ (q = d ∨ q = r ∨ (s.leg q).claims ≠ [])) ∧
        ¬ ((q = d ∨ ∃ c ∈ (s.leg q).claims, c.type = .drive) ∧ (p = d ∨ p = r ∨ (s.leg p).claims ≠ [])) := by
    simp only [bystanderTest_iff, bystander_iff, drivenAcross_iff, driven_withClaims hd hr hne,
      claimed_withClaims hd hr hne]
    refine ⟨fun h b p q hb he ha hp hq => ⟨fun hx => ?_, fun hx => ?_⟩, fun h b hb ⟨he, ha⟩ ⟨p, q, hp, hq, hx⟩ => ?_⟩
    · exact h b hb ⟨he, ha⟩ ⟨p, q, hp, hq, .inl hx⟩
    · exact h b hb ⟨he, ha⟩ ⟨p, q, hp, hq, .inr hx⟩
    · exact hx.elim (h b p q hb he ha hp hq).1 (h b p q hb he ha hp hq).2
  rw [State.compatible, Bool.and_eq_true, Bool.and_eq_true, hleg, hby, hext, and_assoc, and_assoc]

/-! ### The start (R79 to R81) -/

theorem startClaims_eq (s : State) (i : SlotNo) (o : Order) :
    s.startClaims i o = { s with
      slots := (s.startClaims i o).slots, legs := (s.startClaims i o).legs, grant := if o.ext then some i else s.grant
      acts := s.acts.set o.actuator { s.act o.actuator with activeSlot := some i } } := by
  unfold State.startClaims
  rw [withClaims_eq]
  rfl

theorem raisePass_toNat (p : BitVec 4) : (raisePass p).toNat = if p = 15 then 15 else p.toNat + 1 := by
  revert p
  decide

/-- The raise brings a count to the limit (R81). -/
theorem presses_raise_iff (limit : Byte) (p : BitVec 4) :
    (presses limit (raisePass p) = true ∧ ¬ presses limit p = true) ↔ p ≠ 15 ∧ p.toNat + 1 = limit.toNat := by
  have hlimit : limit ≠ 0 ↔ limit.toNat ≠ 0 := by
    rw [Ne, ← BitVec.toNat_inj]
    rfl
  rw [presses_iff, presses_iff, raisePass_toNat, hlimit]
  by_cases hp : p = 15
  · subst hp
    rw [if_pos rfl]
    simp
  · rw [if_neg hp]
    simp only [hp, not_false_eq_true, ne_eq, true_and]
    omega

theorem raise_queued {o : Order} (h : o.kind ≠ .fence) :
    (SlotState.queued o).raise = .queued { o with pass := if o.pass = 15 then 15 else o.pass + 1 } := if_neg h

theorem raise_other {x : SlotState} (h : ∀ p, x = .queued p → p.kind = .fence) : x.raise = x := by
  cases x with
  | queued o => exact if_pos (h o rfl)
  | _ => rfl

theorem raise_newly_pressing_iff (limit : Byte) (x : SlotState) :
    (x.raise.pressing limit = true ∧ ¬ x.pressing limit = true) ↔
      ∃ p, x = .queued p ∧ p.kind ≠ .fence ∧ p.pass ≠ 15 ∧ p.pass.toNat + 1 = limit.toNat := by
  cases x with
  | queued o =>
    by_cases hk : o.kind = .fence
    · rw [raise_other fun p hp => by cases hp; exact hk]
      simp [hk]
    · have h := presses_raise_iff limit o.pass
      simpa [raise_queued hk, SlotState.pressing, hk, raisePass] using h
  | _ => exact ⟨fun h => (nomatch h.1), fun ⟨_, h, _⟩ => (nomatch h)⟩

/-- A start sets PRESSING exactly if the raise of an older QUEUED move order brings its count to the limit (R80,
R81). -/
theorem newlyPressing_raise_iff (t : State) (is : List SlotNo) :
    newlyPressing t (t.mapSlots fun j x => if is.contains j then x.raise else x) = true ↔
      ∃ j p, j ∈ is ∧ t.slot j = .queued p ∧ p.kind ≠ .fence ∧ p.pass ≠ 15 ∧
        p.pass.toNat + 1 = t.settings.passLimit.toNat := by
  have hslot (j : SlotNo) : (((if is.contains j then (t.slot j).raise else t.slot j).pressing
      t.settings.passLimit && !(t.slot j).pressing t.settings.passLimit) = true) ↔
        j ∈ is ∧ ∃ p, t.slot j = .queued p ∧ p.kind ≠ .fence ∧ p.pass ≠ 15 ∧
          p.pass.toNat + 1 = t.settings.passLimit.toNat := by
    rw [← raise_newly_pressing_iff]
    by_cases hj : j ∈ is
    · simp [hj]
    · simp [hj]
  simp only [newlyPressing, mapSlots_settings, slot_mapSlots, List.any_eq_true, List.mem_finRange, true_and, hslot]
  exact exists_congr fun j => ⟨fun ⟨hj, p, h⟩ => ⟨p, hj, h⟩, fun ⟨p, hj, h⟩ => ⟨hj, p, h⟩⟩

/-- Settles O51: `startClaims` writes the claims, the grant, the move and ACTIVE_SLOT, `raiseOlder` the PASS counts and
PRESSING. -/
theorem startPlacesClaimsAndRecord : Obligations.StartPlacesClaimsAndRecord := by
  refine ⟨fun i o d r s hq hk hd hr hne => ?_, fun o p s hp => ?_, fun _ => ⟨rfl, rfl, rfl, rfl⟩⟩
  · have hclaims := startClaims_eq s i o
    have holder : (s.startClaims i o).older i = s.older i := by rw [hclaims]; rfl
    have hset : (s.startClaims i o).settings = s.settings := by rw [hclaims]
    have hslot (j : SlotNo) : ((s.startClaims i o).raiseOlder i).slot j =
        if (s.older i).contains j then ((s.startClaims i o).slot j).raise else (s.startClaims i o).slot j := by
      rw [slot_raiseOlder, holder]
    have hself : (s.startClaims i o).slot i = .active o (s.enterDrive o (s.newMove o)) := by
      rw [slot_startClaims, if_pos rfl]
    have hother {j : SlotNo} (hj : j ≠ i) : (s.startClaims i o).slot j = s.slot j := by
      rw [slot_startClaims, if_neg (Ne.symm hj)]
    have hleg (k : LegNo) : ((s.startClaims i o).raiseOlder i).leg k =
        if k = d then (s.leg d).addClaim ⟨i, .drive⟩ else if k = r then (s.leg r).addClaim ⟨i, .ret⟩ else s.leg k := by
      rw [leg_raiseOlder, leg_startClaims, leg_withClaims hd hr hne]
    have hflags : ((s.startClaims i o).raiseOlder i).flags =
        if newlyPressing (s.startClaims i o) ((s.startClaims i o).mapSlots fun j x =>
          if (s.older i).contains j then x.raise else x) then s.flags ||| 0x0800 else s.flags := by
      obtain ⟨-, -, -, hflags⟩ := lists_startClaims s i o
      rw [State.raiseOlder, setFlagIf_eq, holder]
      dsimp only
      rw [mapSlots_flags, hflags]
      rfl
    refine ⟨(s.startClaims i o).raiseOlder i, startMove_eq s i o, ?_, ?_, fun j p hj hmem hp hpk => ?_,
      fun j hj h => ?_, ?_, ?_, fun k hkd hkr => ?_, fun h => ?_, fun h => ?_⟩
    · have hraise := sameOutside_raiseOlder (s.startClaims i o) i
      have hacts : ((s.startClaims i o).raiseOlder i).acts = (s.startClaims i o).acts :=
        Vector.ext fun a ha => act_raiseOlder (s.startClaims i o) i ⟨a, ha⟩
      have hgrant : ((s.startClaims i o).raiseOlder i).grant = (s.startClaims i o).grant := by
        simp only [State.raiseOlder, setFlagIf_eq, mapSlots_grant]
      have hacc : ((s.startClaims i o).raiseOlder i).acceptance = (s.startClaims i o).acceptance := by
        simp only [State.raiseOlder, setFlagIf_eq, mapSlots_acceptance]
      have hcom : ((s.startClaims i o).raiseOlder i).completion = (s.startClaims i o).completion := by
        simp only [State.raiseOlder, setFlagIf_eq, mapSlots_completion]
      unfold State.sameOutside at hraise
      rw [hacts, hgrant, hacc, hcom] at hraise
      generalize (s.startClaims i o).raiseOlder i = u at hraise
      generalize s.startClaims i o = t at hclaims hraise
      rw [hraise, hclaims]
    · rw [hslot, hself]
      exact ite_self _
    · have hc : (s.older i).contains j = true := List.contains_iff_mem.2 hmem
      rw [hslot, hother hj, hp, if_pos hc, raise_queued hpk]
    · rw [hslot, hother hj]
      split
      · next hc => exact raise_other (h.resolve_left fun hn => hn (List.contains_iff_mem.1 hc))
      · rfl
    · rw [hleg, if_pos rfl]; rfl
    · rw [hleg, if_neg hne.symm, if_pos rfl]; rfl
    · rw [hleg, if_neg hkd, if_neg hkr]
    · obtain ⟨j, p, hj, hp, hpk, h15, hlim⟩ := h
      have hji : j ≠ i := fun hji => older_not_self s i (hji ▸ hj)
      have hnew := (newlyPressing_raise_iff (s.startClaims i o) (s.older i)).2
        ⟨j, p, hj, (hother hji).trans hp, hpk, h15, by rwa [hset]⟩
      rw [hflags, if_pos hnew]
    · rw [hflags, if_neg]
      rw [newlyPressing_raise_iff]
      rintro ⟨j, p, hj, hp, hpk, h15, hlim⟩
      have hji : j ≠ i := fun hji => older_not_self s i (hji ▸ hj)
      rw [hother hji] at hp
      rw [hset] at hlim
      exact h j p hj hp hpk h15 hlim
  · subst hp
    refine ⟨rfl, target_moveTo, target_moveBy, fun g _ hg => ⟨fun hlt => ?_, fun hlt => ?_⟩,
      fun hk => ⟨target_seekEnd hk, fun ha => ?_, fun ha => ?_⟩⟩
    · rw [State.direction, hg]
      exact if_pos hlt
    · rw [State.direction, hg]
      exact if_neg (by unfold State.position; omega)
    · rw [State.direction, target_seekEnd hk]
      exact if_pos ha
    · rw [State.direction, target_seekEnd hk]
      exact if_neg (by rw [ha]; decide)

/-! ### The drive period (R88 to R94) -/

theorem reached_iff {m : Move} {g : Int} (p : Int) (h : m.target = some g) :
    m.reached p = true ↔ (m.dir = .opening ∧ g ≤ p) ∨ (m.dir = .closing ∧ p ≤ g) := by
  unfold Move.reached
  rw [h]
  cases m.dir <;> simp

theorem reached_eq_false {m : Move} {p : Int}
    (h : ∀ g, m.target = some g → ¬ ((m.dir = .opening ∧ g ≤ p) ∨ (m.dir = .closing ∧ p ≤ g))) :
    m.reached p = false := by
  cases ht : m.target with
  | none => simp only [Move.reached, ht]
  | some g =>
    rw [← Bool.not_eq_true, reached_iff p ht]
    exact h g ht

theorem inZone_iff {m : Move} {g : Int} (a : Byte) (p : Int) (h : m.target = some g) :
    m.inZone a p = true ↔ (g - p).natAbs ≤ a.toNat := by
  simp only [Move.inZone, h, decide_eq_true_eq]

theorem inZone_eq_false {m : Move} {a : Byte} {p : Int} (h : ∀ g, m.target = some g → a.toNat < (g - p).natAbs) :
    m.inZone a p = false := by
  cases ht : m.target with
  | none => simp only [Move.inZone, ht]
  | some g =>
    rw [← Bool.not_eq_true, inZone_iff a p ht]
    exact Nat.not_le.2 (h g ht)

theorem inZone_congr {m n : Move} (h : n.target = m.target) (a : Byte) (p : Int) : n.inZone a p = m.inZone a p := by
  simp only [Move.inZone, h]

/-- A drive period begins below the run duty: the ramp (R88, R91). -/
theorem rampFrom_ramp {s : State} {o : Order} {m : Move} (h : m.snapshot.start < m.snapshot.run) :
    s.rampFrom o m = { m with
      firstSeen := false, window := some ((s.config o).startWin.toNat * 20000), windowRun := m.windowRun + 1
      phase := .starting, rampLevel := m.snapshot.start, rampTimer := some (s.settings.ramp.toNat * 20000)
      rampRun := m.rampRun + 1 } :=
  if_neg (BitVec.not_le.2 h)

/-- A drive period begins at the run duty where the start duty is not below it (R88). -/
theorem rampFrom_run {s : State} {o : Order} {m : Move} (h : m.snapshot.run ≤ m.snapshot.start) :
    s.rampFrom o m = { m with
      firstSeen := false, window := some ((s.config o).startWin.toNat * 20000), windowRun := m.windowRun + 1
      phase := .running, rampLevel := m.snapshot.run, rampTimer := none } :=
  if_pos h

theorem rampFrom_target (s : State) (o : Order) (m : Move) :
    (s.rampFrom o m).target = m.target ∧ (s.rampFrom o m).extHeld = m.extHeld := by
  unfold State.rampFrom
  dsimp only
  split <;> exact ⟨rfl, rfl⟩

theorem enterDrive_outside {s : State} {o : Order} {m : Move} (he : m.extHeld = false)
    (hz : m.inZone (s.config o).approach (s.position o) = false) : s.enterDrive o m = s.setDuty (s.rampFrom o m) := by
  have hz' := (inZone_congr (rampFrom_target s o m).1 (s.config o).approach (s.position o)).trans hz
  rw [State.enterDrive, he, if_neg Bool.false_ne_true]
  dsimp only
  rw [hz', if_neg Bool.false_ne_true]

theorem enterDrive_inside {s : State} {o : Order} {m : Move} (he : m.extHeld = false)
    (hz : m.inZone (s.config o).approach (s.position o) = true) :
    s.enterDrive o m = s.setDuty (s.rampFrom o m).approachNow := by
  have hz' := (inZone_congr (rampFrom_target s o m).1 (s.config o).approach (s.position o)).trans hz
  rw [State.enterDrive, he, if_neg Bool.false_ne_true]
  dsimp only
  rw [hz', if_pos rfl]

theorem reenter_at_target {s : State} {o : Order} {m : Move} (h : m.reached (s.position o) = true) :
    s.reenter o m = s.brake .done m :=
  if_pos h

theorem reenter_short {s : State} {o : Order} {m : Move} (h : m.reached (s.position o) = false) :
    s.reenter o m = s.enterDrive o m :=
  if_neg (by rw [h]; exact Bool.false_ne_true)

/-- The current duty of a driving move without the EXT grant (R94). -/
theorem setDuty_capped {s : State} {m : Move} (hd : m.phase.driving = true) (he : m.extHeld = false) :
    s.setDuty m = { m with duty := s.capped m.phaseDuty } := by
  rw [State.setDuty, if_pos hd, if_neg (by rw [he]; exact Bool.false_ne_true)]

/-- The current duty of a driving move that holds the EXT grant (R94). -/
theorem setDuty_uncapped {s : State} {m : Move} (hd : m.phase.driving = true) (he : m.extHeld = true) :
    s.setDuty m = { m with duty := m.phaseDuty } := by
  rw [State.setDuty, if_pos hd, if_pos he]

/-- Settles O52. -/
theorem drivePeriodBegins : Obligations.DrivePeriodBegins := by
  rintro o m p w s rfl rfl
  refine ⟨fun he => ?_, fun g he ht hz => ?_, fun he hz => ⟨fun hlt => ?_, fun hle => ?_⟩, fun g ht hr => ?_,
    fun hr => ?_, fun hw d => ?_, fun hw d => ?_⟩
  · rw [State.enterDrive, if_pos he]
    exact (setDuty_uncapped (by rfl) (by exact he)).trans rfl
  · have hin : m.inZone (s.config o).approach (s.position o) = true := (inZone_iff _ _ ht).2 hz
    have happ : (s.rampFrom o m).approachNow.extHeld = false := (rampFrom_target s o m).2.trans he
    refine ⟨(s.rampFrom o m).rampLevel, (s.rampFrom o m).rampRun, ?_⟩
    rw [enterDrive_inside he hin, setDuty_capped rfl happ]
    by_cases hlt : m.snapshot.start < m.snapshot.run
    · rw [rampFrom_ramp hlt]
      rfl
    · rw [rampFrom_run (BitVec.not_lt.1 hlt)]
      rfl
  · rw [enterDrive_outside he (inZone_eq_false hz), rampFrom_ramp hlt]
    exact (setDuty_capped (by rfl) (by exact he)).trans rfl
  · rw [enterDrive_outside he (inZone_eq_false hz), rampFrom_run hle]
    exact (setDuty_capped (by rfl) (by exact he)).trans rfl
  · exact (reenter_at_target ((reached_iff _ ht).2 hr)).trans rfl
  · exact reenter_short (reached_eq_false hr)
  · exact if_neg fun h => hw h.1
  · simp only [State.capped, hw, true_and]

end Sys2Proof.Machine
end

section
/-! PROOF. Ripple pulses (R13 to R17), the expiries of an order's timers (R87) and the return to driving (R89, R115, R121). -/

namespace Sys2Proof.Machine

/-! ### One move changed -/

theorem onMove_active {s : State} {i : SlotNo} {o : Order} {m : Move} (f : Order → Move → Move)
    (h : s.slot i = .active o m) : s.onMove i f = s.setSlot i (.active o (f o m)) := by
  rw [State.onMove, h]
  rfl

theorem setSlot_self (s : State) (i : SlotNo) : s.setSlot i (s.slot i) = s := by
  simp [State.setSlot, State.slot]

/-- A rule that changes no move of the slot changes nothing. -/
theorem onMove_eq_self {s : State} {i : SlotNo} {f : Order → Move → Move}
    (h : ∀ o m, s.slot i = .active o m → f o m = m) : s.onMove i f = s := by
  have hmap : (s.slot i).mapMove f = s.slot i := by
    cases hx : s.slot i with
    | active o m => rw [SlotState.mapMove, h o m hx]
    | _ => rfl
  rw [State.onMove, hmap, setSlot_self]

theorem inPhase_active {s : State} {i : SlotNo} {o : Order} {m : Move} {p : Phase → Bool}
    (h : s.slot i = .active o m) : (s.slot i).inPhase p = p m.phase := by
  rw [h]
  rfl

/-! ### Ripple pulses (R13 to R17) -/

theorem exec_ripplePulse {s : State} (a : ActNo) (hl : s.inReset = false) :
    exec (.ripplePulse a) s = .next (s.ripplePulse a) :=
  whenLive_live _ s hl

theorem ripplePulse_disabled {s : State} {a : ActNo} (h : (s.act a).config.enable ≠ 1) : s.ripplePulse a = s :=
  if_neg fun he => h ((enabled_iff _).1 he)

theorem ripplePulse_stray {s : State} {a : ActNo} (he : (s.act a).config.enable = 1)
    (h : (s.act a).activeSlot = none) :
    s.ripplePulse a = (s.setAct a (s.act a).strayPulse).setFlagIf (s.act a).losesByStray .positionLost := by
  rw [State.ripplePulse, if_pos ((enabled_iff _).2 he), h]

theorem ripplePulse_move {s : State} {a : ActNo} {i : SlotNo} {o : Order} {m : Move}
    (he : (s.act a).config.enable = 1) (h : (s.act a).activeSlot = some i) (hx : s.slot i = .active o m) :
    s.ripplePulse a = s.movePulse a i m := by
  rw [State.ripplePulse, if_pos ((enabled_iff _).2 he), h]
  dsimp only
  rw [hx]
  rfl

theorem strayPulse_lost {e : Actuator} (h : e.config.strayLimit ≠ 0 ∧ e.config.strayLimit ≤ raiseByte e.stray) :
    e.strayPulse = { e with stray := raiseByte e.stray, valid := false } := by
  rw [Actuator.strayPulse, decide_eq_true h.2, bne_iff_ne.2 h.1, Bool.and_self, Bool.not_true, Bool.and_false]

theorem strayPulse_kept {e : Actuator}
    (h : ¬ (e.valid = true ∧ e.config.strayLimit ≠ 0 ∧ e.config.strayLimit ≤ raiseByte e.stray)) :
    e.strayPulse = { e with stray := raiseByte e.stray } := by
  have hv : (e.valid && !(e.config.strayLimit != 0 && decide (e.config.strayLimit ≤ raiseByte e.stray))) =
      e.valid := by
    cases hev : e.valid
    · rfl
    · have hlim : ¬ (e.config.strayLimit ≠ 0 ∧ e.config.strayLimit ≤ raiseByte e.stray) := fun hl => h ⟨hev, hl⟩
      rw [← bne_iff_ne, ← decide_eq_true_iff (p := _ ≤ _), ← Bool.and_eq_true, Bool.not_eq_true] at hlim
      rw [hlim]
      rfl
  rw [Actuator.strayPulse, hv]

/-- Settles O34. -/
theorem strayPulseCountsStray : Obligations.StrayPulseCountsStray := by
  intro a s hl
  rw [exec_ripplePulse a hl]
  refine ⟨fun he => by rw [ripplePulse_disabled he], fun i o m he ha hx hp ho => ?_, fun n he ha hn => ?_⟩
  · rw [ripplePulse_move he ha hx, State.movePulse, if_pos ⟨ho, hp⟩]
  · obtain rfl : n = raiseByte (s.act a).stray := hn
    rw [ripplePulse_stray he ha]
    refine ⟨fun ⟨hv, hlim⟩ => ?_, fun hkeep => ?_⟩
    · have hloses : (s.act a).losesByStray = true := by rw [Actuator.losesByStray, strayPulse_lost hlim, hv]; rfl
      rw [hloses, strayPulse_lost hlim]
      rfl
    · have hloses : (s.act a).losesByStray = false := by
        rw [Actuator.losesByStray, strayPulse_kept hkeep]
        cases (s.act a).valid <;> rfl
      rw [hloses, strayPulse_kept hkeep]
      rfl

theorem stepPosition_opening (p : Half) : stepPosition .opening p = if p = 0x7FFF then 0x7FFF else p + 1 :=
  ite_congr rfl id fun _ => rfl

theorem stepPosition_closing (p : Half) : stepPosition .closing p = if p = 0x8000 then 0x8000 else p - 1 :=
  ite_congr rfl id fun _ => rfl

/-- The state after POSITION has moved by a driven or coast pulse (R14, R16). -/
def State.counted (s : State) (a : ActNo) (d : Dir) : State :=
  (s.setAct a ((s.act a).count d)).setFlagIf (saturates d (s.act a).position) .positionLost

theorem saturates_iff (d : Dir) (p : Half) :
    saturates d p = true ↔ (d = .opening ∧ p = 0x7FFF) ∨ (d = .closing ∧ p = 0x8000) := by
  cases d <;> simp [saturates]

theorem counted_eq (s : State) (a : ActNo) (d : Dir) :
    s.counted a d =
      if (d = .opening ∧ (s.act a).position = 0x7FFF) ∨ (d = .closing ∧ (s.act a).position = 0x8000) then
        { s with
          acts := s.acts.set a { s.act a with position := stepPosition d (s.act a).position, valid := false }
          flags := s.flags ||| 0x0200 }
      else { s with acts := s.acts.set a { s.act a with position := stepPosition d (s.act a).position } } := by
  unfold State.counted
  split
  · next h =>
    rw [(saturates_iff _ _).2 h, Actuator.count, (saturates_iff _ _).2 h, Bool.not_true, Bool.and_false]
    rfl
  · next h =>
    rw [← saturates_iff, Bool.not_eq_true] at h
    rw [h, Actuator.count, h, Bool.not_false, Bool.and_true]
    rfl

theorem act_counted (s : State) (a : ActNo) (d : Dir) : (s.counted a d).act a = (s.act a).count d := by
  rw [State.counted, act_setFlagIf, act_setAct_self]

theorem slot_counted (s : State) (a : ActNo) (d : Dir) (i : SlotNo) : (s.counted a d).slot i = s.slot i := by
  rw [State.counted, slot_setFlagIf]
  rfl

theorem sameOutside_counted (s : State) (a : ActNo) (d : Dir) : s.sameOutside (s.counted a d) :=
  sameOutside_trans (sameOutside_setAct s a _) (sameOutside_setFlagIf _ _ _)

theorem capped_congr {s t : State} (h : s.sameOutside t) (d : Byte) : t.capped d = s.capped d := by
  rw [State.capped, h.thermal_eq, h.settings_eq]
  rfl

theorem brake_congr {s t : State} (h : s.sameOutside t) (e : Ending) (m : Move) : t.brake e m = s.brake e m := by
  rw [State.brake, h.settings_eq]
  rfl

theorem movePulse_driven {s : State} {a : ActNo} {i : SlotNo} {o : Order} {m : Move} (hx : s.slot i = .active o m)
    (hd : m.phase.driving = true) :
    s.movePulse a i m =
      ((s.counted a m.dir).setSlot i (.active o ((s.counted a m.dir).drivenPulse o m))).settle := by
  have hb : ¬ (m.outcome = some .endFound ∧ m.phase = .braking) := fun h => by rw [h.2] at hd; cases hd
  rw [State.movePulse, if_neg hb]
  dsimp only
  rw [if_pos hd]
  exact congrArg State.settle (onMove_active _ ((slot_counted s a m.dir i).trans hx))

theorem movePulse_coast {s : State} {a : ActNo} {i : SlotNo} {o : Order} {m : Move} (hx : s.slot i = .active o m)
    (hd : m.phase.driving = false) (hb : ¬ (m.phase = .braking ∧ m.outcome = some .endFound)) :
    s.movePulse a i m = (s.counted a m.dir).setSlot i (.active o m.coastPulse) := by
  rw [State.movePulse, if_neg fun h => hb h.symm]
  dsimp only
  rw [hd, if_neg Bool.false_ne_true]
  exact onMove_active _ ((slot_counted s a m.dir i).trans hx)

/-- The move after a driven pulse has been counted and the stall window has restarted (R96, R98). -/
def Move.pulsed (m : Move) (stallWin : Byte) : Move :=
  { m with driven := raiseHalf m.driven, firstSeen := true }.startWindow (tenMs stallWin.toNat)

/-- Settles O35: POSITION first, then the tracker on the moved position. -/
theorem movePulseCounts : Obligations.MovePulseCounts := by
  intro a i o m n p u s hl he ha hx hact hp hu hn
  have hp : p = stepPosition m.dir (s.act a).position := by
    rw [hp]
    cases m.dir
    · exact (stepPosition_opening _).symm
    · exact (stepPosition_closing _).symm
  have hn : n = m.pulsed (s.act a).config.stallWin := hn
  have hu : s.counted a m.dir = u := by rw [counted_eq, hu, hp]
  have hconfig : u.config o = (s.act a).config := by rw [State.config, ← hu, hact, act_counted]; rfl
  have hpos : u.position o = p.toInt := by rw [State.position, ← hu, hact, act_counted, hp]; rfl
  have hout : s.sameOutside u := hu ▸ sameOutside_counted s a m.dir
  have hpulse : u.drivenPulse o m =
      if n.reached p.toInt then u.brake .done n
      else if m.extHeld = false ∧ (m.phase = .starting ∨ m.phase = .running) ∧
          n.inZone (s.act a).config.approach p.toInt then u.setDuty n.approachNow
      else n := by
    rw [State.drivenPulse, hconfig, hpos, hn]
    rfl
  have hdriven (hd : m.phase.driving = true) :
      exec (.ripplePulse a) s = .next (u.setSlot i (.active o (u.drivenPulse o m))).settle := by
    rw [exec_ripplePulse a hl, ripplePulse_move he ha hx, movePulse_driven hx hd, hu]
  have htarget : n.target = m.target ∧ n.dir = m.dir := by rw [hn]; exact ⟨rfl, rfl⟩
  refine ⟨fun hd hb => ?_, fun g hd ht hr => ?_, fun g hph hext ht hr hz => ?_, fun hd hr hout' => ?_⟩
  · rw [exec_ripplePulse a hl, ripplePulse_move he ha hx, movePulse_coast hx hd hb, hu]
    rfl
  · have hreach : n.reached p.toInt = true := (reached_iff _ (htarget.1.trans ht)).2 (htarget.2 ▸ hr)
    rw [hdriven hd, hpulse, if_pos hreach, brake_congr hout]
    rfl
  · have hreach : n.reached p.toInt = false := reached_eq_false fun g' hg' => by
      rw [htarget.1, ht] at hg'
      cases hg'
      exact htarget.2 ▸ hr
    have hzone : n.inZone (s.act a).config.approach p.toInt = true := (inZone_iff _ _ (htarget.1.trans ht)).2 hz
    have hd : m.phase.driving = true := by obtain h | h := hph <;> rw [h] <;> rfl
    have hduty : u.setDuty n.approachNow = { n with
        phase := .approaching, rampTimer := none, duty := s.capped m.snapshot.approach } := by
      rw [setDuty_capped (by rfl) (by rw [hn]; exact hext), capped_congr hout, hn]
      rfl
    rw [hdriven hd, hpulse, hreach, if_neg Bool.false_ne_true, if_pos ⟨hext, hph, hzone⟩, hduty]
  · have hreach : n.reached p.toInt = false := reached_eq_false fun g' hg' => htarget.2 ▸ hr g' (htarget.1 ▸ hg')
    rw [hdriven hd, hpulse, hreach, if_neg Bool.false_ne_true, if_neg]
    rintro ⟨hext, hph, hzone⟩
    obtain h | h | h | h := hout'
    · obtain hp | hp := hph <;> rw [h] at hp <;> cases hp
    · rw [h] at hext; cases hext
    · rw [Move.inZone, htarget.1, h] at hzone
      cases hzone
    · rw [inZone_eq_false fun g hg => h g (htarget.1 ▸ hg)] at hzone
      cases hzone

/-! ### Expiries that are taken, and expiries that are dropped (R44, R87) -/

theorem forOrder_same {s : State} {r : OrderRef} {f : SlotNo → State → State} (h : f r.slot s = s) :
    s.forOrder r f = s := by
  rw [State.forOrder, h, ite_self]

theorem forTimer_same {s : State} {count : Move → Nat} {r : TimerRef} {f : SlotNo → State → State}
    (h : f r.order.slot s = s) : s.forTimer count r f = s := by
  rw [State.forTimer, forOrder_same h, ite_self]

theorem exec_forOrder {s : State} {i : SlotNo} {o : Order} (f : SlotNo → State → State) (hl : s.inReset = false)
    (h : (s.slot i).number = some o.serial) : whenLive (State.forOrder ⟨i, o.serial⟩ f) s = .next (f i s) := by
  rw [whenLive_live _ s hl, forOrder_own s ⟨i, o.serial⟩ f h]

theorem exec_forTimer {s : State} {count : Move → Nat} {i : SlotNo} {o : Order} {m : Move}
    (f : SlotNo → State → State) (hl : s.inReset = false) (h : s.slot i = .active o m) :
    whenLive (State.forTimer count ⟨⟨i, o.serial⟩, count m⟩ f) s = .next (f i s) := by
  rw [whenLive_live _ s hl, forTimer_own s count ⟨⟨i, o.serial⟩, count m⟩ f]
  · rw [h]; rfl
  · rw [h]; rfl

theorem forTimer_dropped {s : State} {count : Move → Nat} {r : TimerRef} (f : SlotNo → State → State)
    (h : ∀ o m, s.slot r.order.slot = .active o m → count m ≠ r.run) : s.forTimer count r f = s := by
  refine forTimer_otherRun s count r f fun hr => ?_
  cases hx : s.slot r.order.slot with
  | active o m =>
    rw [hx] at hr
    exact h o m hx (Option.some.inj hr)
  | _ => rw [hx] at hr; cases hr

theorem rampUp_below {m : Move} (h : m.rampLevel.toNat + m.snapshot.step.toNat < m.snapshot.run.toNat) :
    m.rampUp = BitVec.ofNat 8 (m.rampLevel.toNat + m.snapshot.step.toNat) ∧ m.rampUp ≠ m.snapshot.run := by
  have hlt := m.snapshot.run.isLt
  have hup : m.rampUp = m.rampLevel + m.snapshot.step := if_neg (by omega)
  refine ⟨?_, fun he => ?_⟩
  · rw [hup]
    exact BitVec.eq_of_toNat_eq (by rw [BitVec.toNat_add, BitVec.toNat_ofNat])
  · have := congrArg BitVec.toNat (hup.symm.trans he)
    rw [BitVec.toNat_add, Nat.mod_eq_of_lt (by omega)] at this
    omega

theorem rampUp_above {m : Move} (h : m.snapshot.run.toNat ≤ m.rampLevel.toNat + m.snapshot.step.toNat) :
    m.rampUp = m.snapshot.run :=
  if_pos h

theorem rampExpiry_starting {s : State} {i : SlotNo} {o : Order} {m : Move} (hx : s.slot i = .active o m)
    (hp : m.phase = .starting) (he : m.extHeld = false) :
    s.rampExpiry i = (s.setSlot i (.active o (s.ramp m))).settle := by
  rw [State.rampExpiry, onMove_active _ hx, if_pos ⟨hp, he⟩]

theorem timeoutExpiry_driving {s : State} {i : SlotNo} {o : Order} {m : Move} (hx : s.slot i = .active o m)
    (hd : m.phase.driving = true) (ht : m.timeoutLeft ≠ none) :
    s.timeoutExpiry i = (s.setSlot i (.active o (s.timeOut o m))).settle := by
  rw [State.timeoutExpiry, onMove_active _ hx, if_pos ⟨hd, Option.isSome_iff_ne_none.2 ht⟩]

theorem rampExpiry_other {s : State} {i : SlotNo} (hs : s.DemandLaw)
    (h : (s.slot i).inPhase (· == .starting) = false) : s.rampExpiry i = s := by
  rw [State.rampExpiry, onMove_eq_self, settle_eq_self s hs]
  intro o m hx
  rw [inPhase_active hx, beq_eq_false_iff_ne] at h
  exact if_neg fun hp => h hp.1

theorem timeoutExpiry_other {s : State} {i : SlotNo} (hs : s.DemandLaw)
    (h : (s.slot i).inPhase Phase.driving = false) : s.timeoutExpiry i = s := by
  rw [State.timeoutExpiry, onMove_eq_self, settle_eq_self s hs]
  intro o m hx
  rw [inPhase_active hx] at h
  exact if_neg fun hp => by rw [hp.1] at h; cases h

/-- Settles O36. -/
theorem rampAndTimeoutExpiry : Obligations.RampAndTimeoutExpiry := by
  refine ⟨fun i o m l s hl hx hp he hlev => ?_, fun i o m s hl hx hd ht => ?_,
    fun i n k s hs => ⟨fun h => ?_, fun h => ?_⟩, fun r s h => whenLive_same (forTimer_dropped _ h)⟩
  · subst hlev
    have hexec : exec (.rampExpiry ⟨⟨i, o.serial⟩, m.rampRun⟩) s = .next (s.setSlot i (.active o (s.ramp m))).settle :=
      (exec_forTimer (count := Move.rampRun) State.rampExpiry hl hx).trans (by rw [rampExpiry_starting hx hp he])
    rw [hexec]
    refine ⟨fun hlt => ?_, fun hle => ?_⟩
    · obtain ⟨hup, hne⟩ := rampUp_below hlt
      have hramp : s.ramp m = s.setDuty (s.startRamp { m with rampLevel := m.rampUp }) := by
        rw [State.ramp, if_neg hne]
      rw [hramp, setDuty_capped (by rw [State.startRamp, hp]; rfl) (by exact he), hup]
      simp only [State.startRamp, Move.phaseDuty, hp, tenMs]
    · have hup := rampUp_above hle
      have hramp : s.ramp m = s.setDuty { m with rampLevel := m.rampUp, phase := .running, rampTimer := none } := by
        rw [State.ramp, if_pos hup]
      rw [hramp, setDuty_capped (by rfl) (by exact he), hup]
      rfl
  · refine (exec_forOrder State.timeoutExpiry hl (by rw [hx]; rfl)).trans ?_
    rw [timeoutExpiry_driving hx hd ht]
    rfl
  · exact whenLive_same (forTimer_same (rampExpiry_other hs h))
  · exact whenLive_same (forOrder_same (timeoutExpiry_other hs h))

theorem windowExpiry_other {s : State} {i : SlotNo} (h : (s.slot i).inPhase Phase.driving = false) :
    s.windowExpiry i = s := by
  unfold State.windowExpiry
  split
  · next o m hx =>
    rw [inPhase_active hx] at h
    exact if_neg (by rw [h]; exact Bool.false_ne_true)
  all_goals rfl

theorem windowExpiry_seekEnd {s : State} {i : SlotNo} {o : Order} {m : Move} (hx : s.slot i = .active o m)
    (hd : m.phase.driving = true) (hk : o.kind = .seekEnd) :
    s.windowExpiry i = ((s.setAct o.actuator ((s.act o.actuator).recalibrate o)).setSlot i
      (.active o (s.brake .endFound m))).settle := by
  rw [State.windowExpiry, hx]
  dsimp only
  rw [if_pos hd, if_pos hk]

theorem windowExpiry_stalled {s : State} {i : SlotNo} {o : Order} {m : Move} (hx : s.slot i = .active o m)
    (hd : m.phase.driving = true) (hk : o.kind ≠ .seekEnd) :
    s.windowExpiry i = (s.setSlot i (.active o (s.brake .stalled m))).settle := by
  rw [State.windowExpiry, hx]
  dsimp only
  rw [if_pos hd, if_neg hk]

/-- Settles O37. -/
theorem windowExpiryDecides : Obligations.WindowExpiryDecides := by
  refine ⟨fun i o m n s hl hx hd hn => ?_, fun i n k s h => whenLive_same (forTimer_same (windowExpiry_other h)),
    fun r s h => whenLive_same (forTimer_dropped _ h)⟩
  have hexec : exec (.windowExpiry ⟨⟨i, o.serial⟩, m.windowRun⟩) s = .next (s.windowExpiry i) :=
    exec_forTimer (count := Move.windowRun) State.windowExpiry hl hx
  subst hn
  refine ⟨fun hk e he => ?_, fun hk => ?_⟩
  · rw [hexec, windowExpiry_seekEnd hx hd hk, he]
    rfl
  · rw [hexec, windowExpiry_stalled hx hd hk]
    rfl

/-! ### Expiries that end an order (R105, R108, R123) -/

theorem dispatchIfEnded_ended {s t : State} (h : s.completion.length < t.completion.length) :
    t.dispatchIfEnded s = t.dispatch :=
  if_pos h

theorem dispatchIfEnded_same {s t : State} (h : t.completion = s.completion) : t.dispatchIfEnded s = t :=
  if_neg (by rw [h]; exact lt_irrefl _)

theorem completion_lt_endOrder {s : State} {e : Ending} {i : SlotNo} (h : (s.slot i).holdsOrder = true) :
    s.completion.length < (s.endOrder e i).completion.length := by
  rw [completion_endOrder s e i h, List.length_append]
  exact Nat.lt_succ_self _

theorem brakeTimerExpiry_braking {s : State} {i : SlotNo} {o : Order} {m : Move} {e : Ending}
    (hx : s.slot i = .active o m) (hp : m.phase = .braking) (ho : m.outcome = some e) :
    s.brakeTimerExpiry i = (s.endOrder e i).settle.dispatch := by
  have hd : (s.slot i).decided = some e := by
    rw [hx, SlotState.decided]
    exact (if_pos hp).trans ho
  rw [State.brakeTimerExpiry, endBraked_eq, hd]
  exact dispatchIfEnded_ended (completion_lt_endOrder (by rw [hx]; rfl))

theorem brakeTimerExpiry_other {s : State} {i : SlotNo} (hs : s.DemandLaw)
    (h : (s.slot i).inPhase (· == .braking) = false) : s.brakeTimerExpiry i = s := by
  have hd : (s.slot i).decided = none := by
    cases hx : s.slot i with
    | active o m =>
      rw [inPhase_active hx, beq_eq_false_iff_ne] at h
      exact if_neg h
    | _ => rfl
  rw [State.brakeTimerExpiry, endBraked_eq, hd]
  dsimp only
  rw [settle_eq_self s hs, dispatchIfEnded_same rfl]

theorem fenceDelayExpiry_waiting {s : State} {i : SlotNo} {o : Order} {n : Ticks} (hx : s.slot i = .waiting o n) :
    s.fenceDelayExpiry i = (s.endOrder .done i).settle.dispatch := by
  rw [State.fenceDelayExpiry, hx]

theorem fenceDelayExpiry_other {s : State} {i : SlotNo} (h : ∀ o n, s.slot i ≠ .waiting o n) :
    s.fenceDelayExpiry i = s := by
  unfold State.fenceDelayExpiry
  split
  · next o n hx => exact absurd hx (h o n)
  all_goals rfl

theorem suspendLimitExpiry_suspended {s : State} {i : SlotNo} {o : Order} {m : Move} (hx : s.slot i = .active o m)
    (hp : m.phase = .suspended) (ht : m.suspendTimer ≠ none) :
    s.suspendLimitExpiry i = (s.endOrder .supply i).settle.dispatch := by
  have hm : (s.slot i).move = some m := by rw [hx]; rfl
  rw [State.suspendLimitExpiry, hm]
  exact if_pos ⟨hp, Option.isSome_iff_ne_none.2 ht⟩

theorem suspendLimitExpiry_other {s : State} {i : SlotNo} (h : (s.slot i).inPhase (· == .suspended) = false) :
    s.suspendLimitExpiry i = s := by
  unfold State.suspendLimitExpiry
  split
  · next m hm =>
    rw [SlotState.inPhase, hm, beq_eq_false_iff_ne] at h
    exact if_neg fun hp => h hp.1
  · rfl

theorem number_ne {x : SlotState} {n : Nat} (h : ∀ o, x.order = some o → o.serial ≠ n) : x.number ≠ some n := by
  intro hn
  obtain ⟨o, ho, hs⟩ := Option.map_eq_some_iff.1 hn
  exact h o ho hs

/-- Settles O38. -/
theorem endingExpiries : Obligations.EndingExpiries := by
  refine ⟨fun i o m e s hl hx hp ho => ⟨_, afterEndings_endOrder e s i (by rw [hx]; rfl), ?_⟩,
    fun i o n s hl hx => ⟨_, afterEndings_endOrder .done s i (by rw [hx]; rfl), ?_⟩,
    fun i o m s hl hx hp ht => ⟨_, afterEndings_endOrder .supply s i (by rw [hx]; rfl), ?_⟩,
    fun i n k s => ⟨fun hs h => ?_, fun h => ?_, fun h => ?_⟩,
    fun r s h => whenLive_same (forTimer_dropped _ h), fun r k c s hc h => ?_⟩
  · refine (exec_forOrder State.brakeTimerExpiry hl (by rw [hx]; rfl)).trans ?_
    rw [brakeTimerExpiry_braking hx hp ho]
  · refine (exec_forOrder State.fenceDelayExpiry hl (by rw [hx]; rfl)).trans ?_
    rw [fenceDelayExpiry_waiting hx]
  · refine (exec_forTimer (count := Move.suspendRun) State.suspendLimitExpiry hl hx).trans ?_
    rw [suspendLimitExpiry_suspended hx hp ht]
  · exact whenLive_same (forOrder_same (brakeTimerExpiry_other hs h))
  · exact whenLive_same (forOrder_same (fenceDelayExpiry_other h))
  · exact whenLive_same (forTimer_same (suspendLimitExpiry_other h))
  · have horder (f : SlotNo → State → State) : whenLive (State.forOrder r f) s = .next s :=
      whenLive_same (forOrder_other s r f (number_ne h))
    have htimer (count : Move → Nat) (f : SlotNo → State → State) :
        whenLive (State.forTimer count ⟨r, k⟩ f) s = .next s :=
      whenLive_same (forTimer_other s count ⟨r, k⟩ f (number_ne h))
    simp only [List.mem_cons, List.not_mem_nil, or_false] at hc
    obtain rfl | rfl | rfl | rfl | rfl | rfl := hc
    · exact htimer _ _
    · exact htimer _ _
    · exact horder _
    · exact horder _
    · exact horder _
    · exact htimer _ _

/-! ### The return to driving (R89, R115, R121) -/

/-- The moves of one phase after they have begun to return to driving. -/
def State.returning (s : State) (p : Phase) (f : Order → Move → Move) : State :=
  s.onMoves fun o m => if m.phase = p then f o m else m

/-- The moves of one phase after their return, those timed out that had no time left. -/
def State.returned (s : State) (p : Phase) (f : Order → Move → Move) : State :=
  (s.returning p f).settle.expireReentered s p

theorem returnToDrive_eq (s : State) (p : Phase) (f : Order → Move → Move) :
    s.returnToDrive p f = (s.returned p f).settle := rfl

theorem returning_eq (s : State) (p : Phase) (f : Order → Move → Move) :
    s.returning p f = { s with slots := (s.returning p f).slots } := by
  simp only [State.returning, State.onMoves, State.mapSlots]

theorem returned_eq (s : State) (p : Phase) (f : Order → Move → Move) :
    s.returned p f = { (s.returning p f).settle with slots := (s.returned p f).slots } := by
  simp only [State.returned, State.expireReentered, State.mapSlots]

theorem slot_returning {s : State} {i : SlotNo} {o : Order} {m : Move} (p : Phase) (f : Order → Move → Move)
    (h : s.slot i = .active o m) : (s.returning p f).slot i = .active o (if m.phase = p then f o m else m) := by
  rw [State.returning, slot_onMoves, h]
  rfl

theorem slot_returned (s : State) (p : Phase) (f : Order → Move → Move) (i : SlotNo) :
    (s.returned p f).slot i =
      if (s.slot i).inPhase (· == p) then ((s.returning p f).slot i).mapMove fun o m =>
        if m.phase.driving ∧ m.timeoutLeft = some 0 then s.timeOut o m else m
      else (s.returning p f).slot i := by
  rw [State.returned, State.expireReentered, slot_mapSlots]
  have hsettings : (s.returning p f).settle.settings = s.settings := by rw [returning_eq]; rfl
  have htime (o : Order) (m : Move) : (s.returning p f).settle.timeOut o m = s.timeOut o m := by
    simp only [State.timeOut, State.brake, hsettings]
  simp only [htime]
  rfl

/-- A slot without a move of the phase stays. -/
theorem slot_returned_other {s : State} {p : Phase} (f : Order → Move → Move) {i : SlotNo}
    (h : (s.slot i).inPhase (· == p) = false) :
    (s.returning p f).slot i = s.slot i ∧ (s.returned p f).slot i = s.slot i := by
  have hu : (s.returning p f).slot i = s.slot i := by
    rw [State.returning, slot_onMoves]
    cases hx : s.slot i with
    | active o m =>
      rw [inPhase_active hx, beq_eq_false_iff_ne] at h
      rw [SlotState.mapMove, if_neg h]
    | _ => rfl
  refine ⟨hu, ?_⟩
  rw [slot_returned, h, if_neg Bool.false_ne_true, hu]

/-- What becomes of a move of the phase, by whether it drives again with no time left (R115). -/
theorem slot_returned_phase {s : State} {p : Phase} {f : Order → Move → Move} {i : SlotNo} {o : Order} {m n : Move}
    (h : s.slot i = .active o m) (hp : m.phase = p) (hn : f o m = n) :
    (s.returning p f).slot i = .active o n ∧
      (n.phase.driving = true → n.timeoutLeft = some 0 → (s.returned p f).slot i = .active o (s.timeOut o n)) ∧
      (n.phase.driving = false ∨ n.timeoutLeft ≠ some 0 → (s.returned p f).slot i = .active o n) := by
  have hu : (s.returning p f).slot i = .active o n := by rw [slot_returning p f h, if_pos hp, hn]
  have hw : (s.returned p f).slot i =
      .active o (if n.phase.driving ∧ n.timeoutLeft = some 0 then s.timeOut o n else n) := by
    rw [slot_returned, inPhase_active h, hu, hp, beq_self_eq_true, if_pos rfl]
    rfl
  refine ⟨hu, fun hd ht => ?_, fun hno => ?_⟩
  · rw [hw, if_pos ⟨hd, ht⟩]
  · rw [hw, if_neg]
    rintro ⟨hd, ht⟩
    obtain hno | hno := hno
    · rw [hno] at hd; cases hd
    · exact hno ht

theorem resumeMove_pending {s : State} {o : Order} {m : Move} (h : m.holdPending = true) :
    s.resumeMove o m = { m with phase := .held, holdPending := false, suspendTimer := none } :=
  if_pos h

theorem resumeMove_free {s : State} {o : Order} {m : Move} (h : m.holdPending = false) :
    s.resumeMove o m = s.reenter o { m with suspendTimer := none } :=
  if_neg (by rw [h]; exact Bool.false_ne_true)

theorem exec_restartDelayExpiry {s : State} {n : Nat} (hl : s.inReset = false) (hs : s.supply = .recovering n) :
    exec (.restartDelayExpiry s.restartRun) s = .next
      (if s.settings.autoResume then (({ s with supply := .inRange } : State).setFlag .supplyIn).resumeAll
      else ({ s with supply := .inRange } : State).setFlag .supplyIn).dispatch := by
  refine (whenLive_live _ s hl).trans ?_
  rw [forRestart_own s _ _ rfl, State.restartDelayExpiry, hs]

theorem restartDelayExpiry_other {s : State} (h : ∀ n, s.supply ≠ .recovering n) : s.restartDelayExpiry = s := by
  unfold State.restartDelayExpiry
  split
  · next n hn => exact absurd hn (h n)
  all_goals rfl

/-- Settles O39. -/
theorem restartDelayExpiryReachesIn : Obligations.RestartDelayExpiryReachesIn := by
  refine ⟨fun n s hl hs ha => ?_, fun n s hl hs ha => ?_, fun k s h => ?_⟩
  · rw [exec_restartDelayExpiry hl hs, ha]
    rfl
  · let t : State := ({ s with supply := .inRange } : State).setFlag .supplyIn
    refine ⟨t.returning .suspended t.resumeMove, t.returned .suspended t.resumeMove, returning_eq t _ _,
      returned_eq t _ _, fun i hi => slot_returned_other (s := t) _ hi, fun i o m hx hp hh => ?_,
      fun i o m k hx hp hh hk => ?_, ?_⟩
    · obtain ⟨hu, -, hw⟩ := slot_returned_phase (s := t) hx hp (resumeMove_pending (s := t) hh)
      exact ⟨hu, (hw (.inl rfl)).trans hu.symm⟩
    · exact slot_returned_phase (s := t) hx hp ((resumeMove_free (s := t) hh).trans hk.symm)
    · rw [exec_restartDelayExpiry hl hs, ha]
      rfl
  · refine whenLive_same ?_
    obtain h | h := h
    · rw [State.forRestart, restartDelayExpiry_other h, ite_self]
    · exact forRestart_other s k _ h

end Sys2Proof.Machine
end

section
/-! PROOF. What no byte moves: the port and the thermal state through every command, write and read, but the thermal state through CLEAR_THERMAL. -/

namespace Sys2Proof.Machine

/-- The port and the thermal state stand in `t` as they stand in `s`. -/
def State.standsAs (s t : State) : Prop := t.port = s.port ∧ t.thermal = s.thermal

theorem State.standsAs.refl (s : State) : s.standsAs s := ⟨rfl, rfl⟩

theorem State.standsAs.trans {s t u : State} (h : s.standsAs t) (k : t.standsAs u) : s.standsAs u :=
  ⟨k.1.trans h.1, k.2.trans h.2⟩

theorem standsAs_of_sameOutside {s t : State} (h : s.sameOutside t) : s.standsAs t := ⟨h.port_eq, h.thermal_eq⟩

/-- A change that keeps both, and then one inside the pool, the legs, the grant, the entries and the flags. -/
theorem standsAs_of_frame {s t u : State} (h : t.sameOutside u) (hp : t.port = s.port) (ht : t.thermal = s.thermal) :
    s.standsAs u :=
  State.standsAs.trans ⟨hp, ht⟩ (standsAs_of_sameOutside h)

/-! ### Commands (R176) -/

theorem standsAs_result (s : State) (r : CmdResult) : s.standsAs (s.result r) := ⟨rfl, rfl⟩

theorem standsAs_resultCount (s : State) (n : Nat) : s.standsAs (s.resultCount n) := ⟨rfl, rfl⟩

theorem standsAs_dispatch (s : State) : s.standsAs s.dispatch := standsAs_of_sameOutside (sameOutside_dispatch s)

theorem standsAs_cmdRun (s : State) : s.standsAs s.cmdRun := standsAs_of_frame (sameOutside_dispatch _) rfl rfl

theorem standsAs_withdrawn (s : State) (e : Ending) (is : List SlotNo) (n : Nat) (u : State) :
    s.standsAs (((s.withdraw e is).resultCount n).dispatchIfEnded u) :=
  .trans (standsAs_of_sameOutside (sameOutside_withdraw s e is))
    (standsAs_of_frame (sameOutside_dispatchIfEnded _ _) rfl rfl)

theorem standsAs_cmdStop (s : State) : s.standsAs s.cmdStop :=
  .trans (t := { s with running := false }) ⟨rfl, rfl⟩ (standsAs_withdrawn _ _ _ _ _)

theorem standsAs_cmdResume (s : State) : s.standsAs s.cmdResume := by
  unfold State.cmdResume
  split
  · exact .trans (standsAs_of_sameOutside (sameOutside_returnToDrive s _ _))
      (.trans (standsAs_resultCount _ _) (standsAs_dispatch _))
  · exact standsAs_result s _

theorem standsAs_cancel (is : List SlotNo) (s : State) : s.standsAs (s.cancel is) := standsAs_withdrawn s _ _ _ _

theorem standsAs_cmdCancelAct (s : State) : s.standsAs s.cmdCancelAct := by
  unfold State.cmdCancelAct
  split
  · exact standsAs_cancel _ s
  · exact standsAs_result s _

theorem standsAs_cmdCancelSlot (s : State) : s.standsAs s.cmdCancelSlot := by
  unfold State.cmdCancelSlot
  split
  · exact standsAs_cancel _ s
  · exact standsAs_result s _

theorem standsAs_cmdClearLeg (s : State) : s.standsAs s.cmdClearLeg := by
  unfold State.cmdClearLeg
  split
  · exact standsAs_result s _
  · exact standsAs_of_frame (sameOutside_dispatch _) rfl rfl

/-- CLEAR_THERMAL keeps the port alone (R142). -/
theorem port_cmdClearThermal (s : State) : s.cmdClearThermal.port = s.port := by
  unfold State.cmdClearThermal
  split
  · rw [(sameOutside_dispatch _).port_eq, (standsAs_result _ _).1, (sameOutside_recapSettle _).port_eq]
  · rfl

theorem standsAs_cmdSetPosition (s : State) : s.standsAs s.cmdSetPosition := by
  unfold State.cmdSetPosition
  split
  · exact standsAs_result s _
  · split
    · exact ⟨rfl, rfl⟩
    · exact standsAs_result s _

theorem standsAs_cmdMotionReset (s : State) : s.standsAs s.cmdMotionReset := by
  unfold State.cmdMotionReset
  refine .trans ?_ (standsAs_resultCount _ _)
  exact standsAs_of_frame (sameOutside_setFlagIf _ _ _) rfl rfl

/-- A command but CLEAR_THERMAL keeps both. -/
theorem standsAs_command {code : Byte} (s : State) (h : code.toNat ≠ 0x21) : s.standsAs (s.command code) := by
  unfold State.command
  split
  · exact standsAs_cmdRun s
  · exact standsAs_cmdStop s
  · exact standsAs_cmdResume s
  · exact standsAs_cmdCancelAct s
  · exact standsAs_cancel _ s
  · exact standsAs_cmdCancelSlot s
  · exact standsAs_cancel _ s
  · exact standsAs_cmdClearLeg s
  · next hc => exact absurd hc h
  · exact standsAs_cmdSetPosition s
  · exact standsAs_cmdMotionReset s
  · exact standsAs_result s _

theorem command_clearThermal {code : Byte} (s : State) (h : code.toNat = 0x21) :
    s.command code = s.cmdClearThermal := by
  unfold State.command
  rw [h]
  rfl

theorem port_command (code : Byte) (s : State) : (s.command code).port = s.port := by
  by_cases h : code.toNat = 0x21
  · rw [command_clearThermal s h]
    exact port_cmdClearThermal s
  · exact (standsAs_command s h).1

/-! ### Writes (R168) -/

theorem standsAs_writeFlags (a : Addr) (v : Byte) (s : State) : s.standsAs (s.writeFlags a v) := by
  unfold State.writeFlags
  repeat' split
  all_goals exact ⟨rfl, rfl⟩

theorem standsAs_writeMask (a : Addr) (v : Byte) (s : State) : s.standsAs (s.writeMask a v) := by
  unfold State.writeMask
  repeat' split
  all_goals exact ⟨rfl, rfl⟩

theorem standsAs_writePassLimit (v : Byte) (s : State) : s.standsAs (s.writePassLimit v) :=
  standsAs_of_frame (sameOutside_setFlagIf _ _ _) rfl rfl

theorem standsAs_writeWarmCap (v : Byte) (s : State) : s.standsAs (s.writeWarmCap v) := by
  unfold State.writeWarmCap
  dsimp only
  split
  · exact standsAs_of_frame (sameOutside_recapSettle _) rfl rfl
  · exact ⟨rfl, rfl⟩

theorem standsAs_submitRequest (s : State) : s.standsAs s.submitRequest := by
  unfold State.submitRequest
  split
  · exact standsAs_of_frame (sameOutside_dispatch _) rfl rfl
  · exact ⟨rfl, rfl⟩

theorem standsAs_writeActSel (v : Byte) (s : State) : s.standsAs (s.writeActSel v) := by
  unfold State.writeActSel
  split <;> exact ⟨rfl, rfl⟩

theorem standsAs_applyRequest (s : State) : s.standsAs s.applyRequest := by
  unfold State.applyRequest
  dsimp only
  split
  · exact standsAs_of_frame (sameOutside_dispatch _) rfl rfl
  · exact ⟨rfl, rfl⟩

theorem standsAs_store (a : Addr) (v : Byte) (s : State) : s.standsAs (s.store a v) := by
  unfold State.store
  dsimp only
  repeat' split
  all_goals exact ⟨rfl, rfl⟩

/-- The address 07h has one number (R176). -/
theorem takeWrite_command {a : Addr} (v : Byte) (s : State) (h : a.toNat = 0x07) : s.takeWrite a v = s.command v := by
  unfold State.takeWrite
  rw [h]
  rfl

/-- A write but that of CLEAR_THERMAL's code to COMMAND keeps both. -/
theorem standsAs_takeWrite {a : Addr} {v : Byte} (s : State) (h : a.toNat = 0x07 → v.toNat ≠ 0x21) :
    s.standsAs (s.takeWrite a v) := by
  unfold State.takeWrite
  split
  · exact standsAs_writeFlags _ v s
  · exact standsAs_writeFlags _ v s
  · exact standsAs_writeMask _ v s
  · exact standsAs_writeMask _ v s
  · next ha => exact standsAs_command s (h ha)
  · exact standsAs_writePassLimit v s
  · exact standsAs_writeWarmCap v s
  · exact standsAs_submitRequest s
  · exact standsAs_writeActSel v s
  · exact standsAs_applyRequest s
  · exact standsAs_store a v s

theorem port_takeWrite (a : Addr) (v : Byte) (s : State) : (s.takeWrite a v).port = s.port := by
  by_cases h : a.toNat = 0x07
  · rw [takeWrite_command v s h]
    exact port_command v s
  · exact (standsAs_takeWrite s fun ha => absurd ha h).1

/-! ### Reads (R169) -/

theorem standsAs_viewRead (s : State) (a : Addr) (c : Captured) : s.standsAs (s.viewRead a c) := by
  unfold State.viewRead
  split <;> exact ⟨rfl, rfl⟩

theorem standsAs_fillShadow (s : State) (a : Addr) (c : Captured) : s.standsAs (s.fillShadow a c) := by
  unfold State.fillShadow
  repeat' split
  all_goals exact ⟨rfl, rfl⟩

theorem standsAs_pop (s : State) : s.standsAs s.pop := by
  obtain h | ⟨i, rest, -, h⟩ := pop_cases s
  · rw [h]; exact .refl s
  · rw [h]; exact ⟨rfl, rfl⟩

theorem standsAs_readEffect (s : State) (a : Addr) (c : Captured) : s.standsAs (s.readEffect a c) := by
  have hread := (standsAs_viewRead s a c).trans (standsAs_fillShadow _ a c)
  unfold State.readEffect
  dsimp only
  split
  · exact hread.trans (standsAs_pop _)
  · exact hread

/-! ### The forms of a meaning, for the thermal state (R137) -/

theorem thermal_advance (s : State) : s.advance.thermal = s.thermal := by
  unfold State.advance
  split <;> rfl

theorem thermal_dataByte {v : Byte} {s : State} (h : s.inReset = false) (hw : v = 0x21 → ¬ s.Writing 0x07) :
    (s.dataByte v).thermal = s.thermal := by
  unfold State.dataByte
  split
  · next a out hp =>
    rw [thermal_advance]
    refine (standsAs_takeWrite s fun ha hv => ?_).2
    obtain rfl : a = 0x07 := BitVec.eq_of_toNat_eq ha
    exact hw (BitVec.eq_of_toNat_eq hv) ⟨h, out, hp⟩
  · rw [thermal_advance]
    exact (standsAs_readEffect s _ _).2
  all_goals rfl

section Forms

variable {s t : State}

theorem thermal_whenLive {f : State → State} (hf : (f s).thermal = s.thermal) (h : whenLive f s = .next t) :
    t.thermal = s.thermal := by
  obtain rfl := Host.Outcome.next.inj h
  split
  · rfl
  · exact hf

theorem thermal_writeRow {a : Addr} {f : State → State} (hf : s.standsAs (f s)) (h : writeRow a f s = .next t) :
    t.thermal = s.thermal := by
  obtain ⟨-, rfl⟩ | ⟨-, rfl⟩ := writeRow_cases h
  · exact (thermal_advance _).trans hf.2
  · rfl

theorem thermal_readRow {p : Nat → Bool} (h : readRow p s = .next t) : t.thermal = s.thermal := by
  obtain rfl := Host.Outcome.next.inj h
  split
  · exact (thermal_advance _).trans (standsAs_readEffect s _ _).2
  · rfl

theorem thermal_forRestart {f : State → State} (hf : (f s).thermal = s.thermal) (n : Nat) :
    (s.forRestart n f).thermal = s.thermal := by
  unfold State.forRestart
  split
  · exact hf
  · rfl

end Forms

/-! ### The thermal state through the events -/

theorem thermal_holdAsserted (s : State) : s.holdAsserted.thermal = s.thermal := by
  cases h : s.holdOn
  · exact (frame_holdAsserted s h).thermal_eq
  · rw [State.holdAsserted, if_pos h]

theorem thermal_holdReleased (s : State) : s.holdReleased.thermal = s.thermal := by
  cases h : s.holdOn
  · rw [State.holdReleased, if_neg (by rw [h]; exact Bool.false_ne_true)]
  · exact (frame_holdReleased s h).thermal_eq

theorem thermal_supplyOut (s : State) : s.supplyOut.thermal = s.thermal := by
  cases h : s.insideOuter
  · rw [State.supplyOut, if_neg (by rw [h]; exact Bool.false_ne_true)]
  · exact (frame_supplyOut s h).thermal_eq

theorem thermal_supplyInRange (s : State) : s.supplyInRange.thermal = s.thermal := by
  have hrecover (u : State) : u.recover.thermal = u.thermal := by
    unfold State.recover
    split <;> rfl
  unfold State.supplyInRange
  split
  · exact hrecover _
  · rfl

theorem thermal_restartDelayExpiry (s : State) : s.restartDelayExpiry.thermal = s.thermal := by
  cases h : s.supply with
  | recovering n => exact (frame_restartDelayExpiry n s h).thermal_eq
  | inRange => rw [State.restartDelayExpiry, h]
  | out => rw [State.restartDelayExpiry, h]

theorem thermal_selnFalling (s : State) : s.selnFalling.thermal = s.thermal := by
  unfold State.selnFalling
  split <;> rfl

theorem thermal_headerByte (b : Byte) (s : State) : (s.headerByte b).thermal = s.thermal := by
  unfold State.headerByte
  repeat' split
  all_goals rfl

theorem thermal_transferEnd (bits : Fin 8) (s : State) : (s.transferEnd bits).thermal = s.thermal := by
  unfold State.transferEnd
  split
  · exact (sameOutside_setFlagIf _ _ _).thermal_eq
  · exact (sameOutside_setFlagIf _ _ _).thermal_eq
  all_goals rfl

/-! ### COOLED is left by four commands alone (R137, R142) -/

theorem thermal_warnRise_cooled {s : State} (h : s.thermal = .cooled) : s.warnRise.thermal = .cooled := by
  have hn : s.thermal ≠ .normal := by rw [h]; exact nofun
  unfold State.warnRise
  split
  · exact h
  · exact h

theorem thermal_warnFall_cooled {s : State} (h : s.thermal = .cooled) : s.warnFall.thermal = .cooled := by
  have hn : s.thermal ≠ .warm := by rw [h]; exact nofun
  unfold State.warnFall
  split
  · exact h
  · exact h

theorem thermal_shutdownFall_cooled {s : State} (h : s.thermal = .cooled) : s.shutdownFall.thermal = .cooled := by
  have hn : s.thermal ≠ .shutdown := by rw [h]; exact nofun
  unfold State.shutdownFall
  split
  · exact h
  · exact h

theorem leaves_cooled {c : Instr} {s t : State} (hl : s.inReset = false) (hs : s.thermal = .cooled)
    (h : exec c s = .next t) (ht : t.thermal ≠ .cooled) :
    c = .clearThermal ∨ c = .shutdownRise ∨ c = .fullReset ∨ (c = .registerWrite 0x21 ∧ s.Writing 0x07) := by
  by_contra hc
  simp only [not_or, not_and] at hc
  obtain ⟨hclear, hrise, hreset, hbyte⟩ := hc
  refine ht ?_
  cases c with
  | clearThermal => exact absurd rfl hclear
  | shutdownRise => exact absurd rfl hrise
  | fullReset => exact absurd rfl hreset
  | registerWrite v =>
    exact (thermal_whenLive (thermal_dataByte hl fun hv => hbyte (congrArg Instr.registerWrite hv)) h).trans hs
  | selnFalling => exact (thermal_whenLive (thermal_selnFalling s) h).trans hs
  | headerByte b => exact (thermal_whenLive (thermal_headerByte b s) h).trans hs
  | transferEnd bits => exact (thermal_whenLive (thermal_transferEnd bits s) h).trans hs
  | submit _ => exact (thermal_writeRow (standsAs_submitRequest s) h).trans hs
  | apply _ => exact (thermal_writeRow (standsAs_applyRequest s) h).trans hs
  | actSelWrite v => exact (thermal_writeRow (standsAs_writeActSel v s) h).trans hs
  | flagsWrite v =>
    simp only [exec, execFlagsWrite] at h
    split at h <;> exact (thermal_writeRow (standsAs_writeFlags _ v s) h).trans hs
  | maskWrite v =>
    simp only [exec, execMaskWrite] at h
    split at h <;> exact (thermal_writeRow (standsAs_writeMask _ v s) h).trans hs
  | passlimWrite v => exact (thermal_writeRow (standsAs_writePassLimit v s) h).trans hs
  | warmcapWrite v => exact (thermal_writeRow (standsAs_writeWarmCap v s) h).trans hs
  | completionWindowRead => exact (thermal_readRow h).trans hs
  | completionPop => exact (thermal_readRow h).trans hs
  | positionRead => exact (thermal_readRow h).trans hs
  | run => exact (thermal_writeRow (standsAs_cmdRun s) h).trans hs
  | stop => exact (thermal_writeRow (standsAs_cmdStop s) h).trans hs
  | resume => exact (thermal_writeRow (standsAs_cmdResume s) h).trans hs
  | cancelAct => exact (thermal_writeRow (standsAs_cmdCancelAct s) h).trans hs
  | cancelTag => exact (thermal_writeRow (standsAs_cancel _ s) h).trans hs
  | cancelSlot => exact (thermal_writeRow (standsAs_cmdCancelSlot s) h).trans hs
  | cancelAll => exact (thermal_writeRow (standsAs_cancel _ s) h).trans hs
  | clearLeg => exact (thermal_writeRow (standsAs_cmdClearLeg s) h).trans hs
  | setPosition => exact (thermal_writeRow (standsAs_cmdSetPosition s) h).trans hs
  | motionReset => exact (thermal_writeRow (standsAs_cmdMotionReset s) h).trans hs
  | unknownCommand code =>
    simp only [exec, execUnknownCommand] at h
    split at h
    · obtain rfl := Host.Outcome.next.inj h
      exact hs
    · exact (thermal_writeRow (standsAs_result s _) h).trans hs
  | ripplePulse a => exact (thermal_whenLive (frame_ripplePulse a s).thermal_eq h).trans hs
  | rampExpiry r =>
    exact (thermal_whenLive (sameOutside_forTimer _ _ _ _ fun i => frame_rampExpiry i s).thermal_eq h).trans hs
  | windowExpiry r =>
    exact (thermal_whenLive (sameOutside_forTimer _ _ _ _ fun i => frame_windowExpiry i s).thermal_eq h).trans hs
  | timeoutExpiry r =>
    exact (thermal_whenLive (sameOutside_forOrder _ _ _ fun i => frame_timeoutExpiry i s).thermal_eq h).trans hs
  | brakeTimerExpiry r =>
    exact (thermal_whenLive (sameOutside_forOrder _ _ _ fun i => frame_brakeTimerExpiry i s).thermal_eq h).trans hs
  | fenceDelayExpiry r =>
    exact (thermal_whenLive (sameOutside_forOrder _ _ _ fun i => frame_fenceDelayExpiry i s).thermal_eq h).trans hs
  | suspendLimitExpiry r =>
    exact (thermal_whenLive (sameOutside_forTimer _ _ _ _ fun i => frame_suspendLimitExpiry i s).thermal_eq h).trans hs
  | restartDelayExpiry run =>
    exact (thermal_whenLive (thermal_forRestart (thermal_restartDelayExpiry s) run) h).trans hs
  | deadIntervalEnd r =>
    exact (thermal_whenLive (sameOutside_forLeg _ _ _ fun k => frame_deadIntervalEnd k s).thermal_eq h).trans hs
  | overCurrent r =>
    exact (thermal_whenLive (sameOutside_forLeg _ _ _ fun k => frame_overCurrent k s).thermal_eq h).trans hs
  | holdAsserted => exact (thermal_whenLive (thermal_holdAsserted s) h).trans hs
  | holdReleased => exact (thermal_whenLive (thermal_holdReleased s) h).trans hs
  | supplyOut => exact (thermal_whenLive (thermal_supplyOut s) h).trans hs
  | supplyInRange => exact (thermal_whenLive (thermal_supplyInRange s) h).trans hs
  | warnRise => exact (thermal_whenLive ((thermal_warnRise_cooled hs).trans hs.symm) h).trans hs
  | warnFall => exact (thermal_whenLive ((thermal_warnFall_cooled hs).trans hs.symm) h).trans hs
  | shutdownFall => exact (thermal_whenLive ((thermal_shutdownFall_cooled hs).trans hs.symm) h).trans hs
  | resetEnd die vbr holdLow selnLow =>
    obtain rfl := Host.Outcome.next.inj h
    rw [State.resetEnd, if_neg (by rw [hl]; exact Bool.false_ne_true)]
    exact hs
  | outerWindowReentry => exact (thermal_whenLive rfl h).trans hs

end Sys2Proof.Machine
end

section
/-! PROOF. The events of the monitors and the comparators: over-current (R33), hold (R112, R114), supply (R117 to R119), thermal (R137 to R141). -/

namespace Sys2Proof.Machine

theorem holdsOrder_of_move {x : SlotState} (h : x.move.isSome = true) : x.holdsOrder = true := by
  cases x with
  | active o m => rfl
  | _ => cases h

theorem setFlag_of_flags {s : State} {w : Half} (f : Flag) (h : s.flags = w) :
    s.setFlag f = { s with flags := w ||| f.word } := by
  rw [State.setFlag, h]

/-- The pass that would follow an ending does not come while a condition of R70 holds. -/
theorem dispatchIfEnded_blocked {s t : State} (h : t.blocked = true) : t.dispatchIfEnded s = t := by
  rw [State.dispatchIfEnded, dispatch_blocked t h, ite_self]

/-! ### Over-current (R32, R33) -/

theorem latchOff_eq {s : State} {k : LegNo} (h : (s.leg k).state.conducting = true) :
    s.latchOff k = s.setLeg k { state := .off, claims := [], run := (s.leg k).run + 1 } := by
  rw [State.latchOff, Leg.enter, h]
  rfl

theorem overCurrent_conducting {s : State} {k : LegNo} (h : (s.leg k).state.conducting = true) :
    s.overCurrent k = ((((s.latchOff k).endOrders .overcurrent (s.acceptance.filter fun i =>
      (s.leg k).claimedBy i && (s.slot i).move.isSome)).settle).setFlag .legFault).dispatch :=
  if_pos h

/-- Settles O42. -/
theorem overCurrentLatchesTheLeg : Obligations.OverCurrentLatchesTheLeg := by
  refine ⟨fun k s hl hp hcond => ?_, fun r s h => whenLive_same ?_⟩
  · have hc := (conducting_iff _).2 hcond
    let is := s.acceptance.filter fun i => (s.leg k).claimedBy i && (s.slot i).move.isSome
    have hends : (s.latchOff k).afterEndings (fun _ => .overcurrent) is
        ((s.latchOff k).endOrders .overcurrent is) :=
      afterEndings_endOrders _ _ _ (hp.1.filter _) fun i hi =>
        holdsOrder_of_move (Bool.and_eq_true_iff.1 (List.mem_filter.1 hi).2).2
    have hflags : ((s.latchOff k).endOrders .overcurrent is).settle.flags = s.flags := flags_endOrders _ _ _
    rw [← latchOff_eq hc]
    refine ⟨_, hends, (whenLive_live _ s hl).trans ?_⟩
    rw [forLeg_own s ⟨k, (s.leg k).run⟩ _ rfl, overCurrent_conducting hc, setFlag_of_flags .legFault hflags]
    rfl
  · by_cases hr : (s.leg r.leg).run = r.run
    · rw [forLeg_own s r _ hr, State.overCurrent, if_neg]
      rw [conducting_iff]
      obtain h | h | ⟨d, n, h⟩ | h := h
      · simp [h]
      · simp [h]
      · simp [h]
      · exact absurd hr h
    · exact forLeg_other s r _ hr

/-! ### Hold (R112 to R114) -/

theorem onHold_driving {m : Move} (h : m.phase.driving = true) : m.onHold = m.hold := if_pos h

theorem onHold_suspended {m : Move} (h : m.phase = .suspended) : m.onHold = { m with holdPending := true } := by
  rw [Move.onHold, h]
  rfl

theorem onHold_other {m : Move} (hd : m.phase.driving = false) (hs : m.phase ≠ .suspended) : m.onHold = m := by
  rw [Move.onHold, hd, if_neg Bool.false_ne_true, if_neg hs]

/-- A rule for every move leaves a slot whose move it keeps. -/
theorem slot_onMoves_same {s : State} {f : Order → Move → Move} {i : SlotNo}
    (h : ∀ o m, s.slot i = .active o m → f o m = m) : (s.onMoves f).slot i = s.slot i := by
  rw [slot_onMoves]
  cases hx : s.slot i with
  | active o m => rw [SlotState.mapMove, h o m hx]
  | _ => rfl

theorem slot_onMoves_active {s : State} {i : SlotNo} {o : Order} {m : Move} (f : Order → Move → Move)
    (h : s.slot i = .active o m) : (s.onMoves f).slot i = .active o (f o m) := by
  rw [slot_onMoves, h]
  rfl

theorem holdAsserted_off {s : State} (h : s.holdOn = false) :
    s.holdAsserted = ((({ s with holdOn := true } : State).setFlag .holdOn).onMoves fun _ m => m.onHold).settle := by
  rw [State.holdAsserted, h]
  rfl

/-- The state when the hold ends, before its HELD moves return (R114). -/
def State.holdEnded (s : State) : State :=
  (({ s with holdOn := false } : State).setFlag .holdOff).onMoves fun _ m => m.clearPending

theorem holdReleased_on {s : State} (h : s.holdOn = true) :
    s.holdReleased = (s.holdEnded.returnToDrive .held s.holdEnded.reenter).dispatch := by
  rw [State.holdReleased, h]
  rfl

theorem holdEnded_withSlots (s : State) (v : Vector SlotState 16) :
    { s.holdEnded with slots := v } = { s with holdOn := false, flags := s.flags ||| 0x0100, slots := v } := by
  simp only [State.holdEnded, State.onMoves, State.mapSlots, State.setFlag]
  rfl

/-- The end of the hold changes nothing that a return to driving reads (R89). -/
theorem reenter_holdEnded (s : State) : s.holdEnded.reenter = s.reenter ∧ s.holdEnded.timeOut = s.timeOut := by
  rw [show s.holdEnded = _ from holdEnded_withSlots s s.holdEnded.slots]
  generalize s.holdEnded.slots = v
  exact ⟨rfl, rfl⟩

theorem clearPending_other {m : Move} (h : m.phase ≠ .suspended) : m.clearPending = m := if_neg h

theorem slot_holdEnded_suspended {s : State} {i : SlotNo} {o : Order} {m : Move} (h : s.slot i = .active o m)
    (hs : m.phase = .suspended) : s.holdEnded.slot i = .active o { m with holdPending := false } := by
  have hclear : m.clearPending = { m with holdPending := false } := if_pos hs
  rw [State.holdEnded, slot_onMoves_active (s := ({ s with holdOn := false } : State).setFlag .holdOff) _ h, hclear]

theorem slot_holdEnded_other {s : State} {i : SlotNo} (h : (s.slot i).inPhase (· == .suspended) = false) :
    s.holdEnded.slot i = s.slot i := by
  refine slot_onMoves_same fun o m hx => clearPending_other fun hs => ?_
  rw [inPhase_active (s := s) hx, hs] at h
  cases h

/-- Settles O43. -/
theorem holdEvents : Obligations.HoldEvents := by
  refine ⟨fun s hl hh => ?_, fun s hl hh => ?_, fun s hh => whenLive_same (if_pos hh),
    fun s hh => whenLive_same (if_neg (by rw [hh]; exact Bool.false_ne_true))⟩
  · let t : State := ({ s with holdOn := true } : State).setFlag .holdOn
    refine ⟨t.onMoves fun _ m => m.onHold, rfl, fun i o m hx hd => ?_, fun i o m hx hs => ?_, fun i hi => ?_, ?_⟩
    · rw [slot_onMoves_active (s := t) _ hx, onHold_driving hd]
      rfl
    · rw [slot_onMoves_active (s := t) _ hx, onHold_suspended hs]
    · refine slot_onMoves_same (s := t) fun o m hx => ?_
      rw [show s.slot i = _ from hx] at hi
      obtain ⟨hd, hs⟩ := Bool.or_eq_false_iff.1 hi
      exact onHold_other hd (beq_eq_false_iff_ne.1 hs)
    · exact (whenLive_live _ s hl).trans (congrArg _ (holdAsserted_off hh))
  · let t : State := s.holdEnded
    refine ⟨t.returning .held t.reenter, t.returned .held t.reenter,
      (returning_eq t _ _).trans (holdEnded_withSlots s _), returned_eq t _ _, fun i o m hx hs => ?_, fun i hi => ?_,
      fun i o m n hx hp hn => ?_, ?_⟩
    · have ht := slot_holdEnded_suspended hx hs
      obtain ⟨hu, hw⟩ := slot_returned_other (s := t) (p := .held) t.reenter (i := i) (by
        rw [inPhase_active ht, hs]; rfl)
      exact ⟨hu.trans ht, hw.trans hu.symm⟩
    · have hphase : (s.slot i).inPhase (· == .held) = false ∧ (s.slot i).inPhase (· == .suspended) = false := by
        cases hx : s.slot i with
        | active o m =>
          rw [hx] at hi
          exact Bool.or_eq_false_iff.1 hi
        | _ => exact ⟨rfl, rfl⟩
      have ht := slot_holdEnded_other hphase.2
      obtain ⟨hu, hw⟩ := slot_returned_other (s := t) (p := .held) t.reenter (i := i) (by rw [ht]; exact hphase.1)
      exact ⟨hu.trans ht, hw.trans ht⟩
    · have ht : t.slot i = .active o m :=
        (slot_holdEnded_other (by rw [inPhase_active hx, hp]; rfl)).trans hx
      obtain ⟨hre, hout⟩ := reenter_holdEnded s
      rw [← hout]
      exact slot_returned_phase (f := t.reenter) ht hp ((congrFun (congrFun hre o) m).trans hn.symm)
    · refine (whenLive_live _ s hl).trans ?_
      rw [holdReleased_on hh, returnToDrive_eq]

/-! ### Supply (R117 to R119, R144) -/

theorem supplyOut_inside {s : State} (hi : s.insideOuter = true) (hs : s.supply = .inRange) :
    s.supplyOut = (({ s with insideOuter := false, armed := true } : State).setFlag .supplyOut).loseSupply := by
  rw [State.supplyOut, if_pos hi, hs]

theorem supplyOut_out {s : State} (hi : s.insideOuter = true) (hs : s.supply ≠ .inRange) :
    s.supplyOut = ({ s with supply := .out, insideOuter := false, armed := true } : State).setFlag .supplyOut := by
  unfold State.supplyOut
  rw [if_pos hi]
  split
  · next h => exact absurd h hs
  · next h => rw [State.setFlag, State.setFlag, h]
  · rfl

/-- Ends of moves in BRAKING are ends of orders, each with its decided outcome (R117). -/
theorem foldl_endBraked_eq (e : SlotNo → Ending) (is : List SlotNo) :
    ∀ s : State, is.Nodup → (∀ i ∈ is, (s.slot i).decided = some (e i)) →
      is.foldl (fun u i => u.endBraked i) s = is.foldl (fun u i => u.endOrder (e i) i) s := by
  induction is with
  | nil => exact fun _ _ _ => rfl
  | cons i is ih =>
    intro s hn hd
    obtain ⟨hi, hn⟩ := List.nodup_cons.1 hn
    have hone : s.endBraked i = s.endOrder (e i) i := by rw [endBraked_eq, hd i List.mem_cons_self]
    rw [List.foldl_cons, List.foldl_cons, hone]
    refine ih _ hn fun j hj => ?_
    rw [slot_endOrder, if_neg (by rintro rfl; exact hi hj)]
    exact hd j (List.mem_cons_of_mem i hj)

/-- A lawful move in BRAKING has decided its outcome (R103). -/
theorem decided_of_braking {s : State} (hs : s.MoveLaw) {i : SlotNo} (h : (s.slot i).inPhase (· == .braking) = true) :
    (s.slot i).decided = some (((s.slot i).move.bind Move.outcome).getD .done) := by
  have hl := hs i
  cases hx : s.slot i with
  | active o m =>
    rw [inPhase_active hx, beq_iff_eq] at h
    rw [hx, SlotState.moveHas, Move.lawful, h] at hl
    simp only [Bool.and_eq_true] at hl
    obtain ⟨⟨⟨⟨⟨ho, -⟩, -⟩, -⟩, -⟩, -⟩ := hl
    obtain ⟨e, he⟩ := Option.isSome_iff_exists.1 ho
    simp only [SlotState.decided, SlotState.move, h, if_true, he, Option.bind_some, Option.getD_some]
  | _ => rw [hx] at h; cases h

theorem loseSupply_eq (s : State) :
    s.loseSupply = (((s.accepted fun x => x.inPhase (· == .braking)).foldl (fun u i => u.endBraked i)
      s.supplyLost).settle).dispatchIfEnded s := rfl

/-- Without supply no pass follows the endings (R70, R117). -/
theorem loseSupply_ends (s : State) (hp : s.PoolLaw) (hm : s.MoveLaw) :
    ∃ w, s.supplyLost.afterEndings (fun i => (((s.slot i).move.bind Move.outcome).getD .done))
        (s.acceptance.filter fun i => (s.slot i).inPhase (· == .braking)) w ∧ s.loseSupply = w.settle := by
  let is := s.acceptance.filter fun i => (s.slot i).inPhase (· == .braking)
  have hdecided (i : SlotNo) (hi : i ∈ is) :
      (s.supplyLost.slot i).decided = some (((s.slot i).move.bind Move.outcome).getD .done) :=
    (decided_supplyLost s i).trans (decided_of_braking hm (List.mem_filter.1 hi).2)
  have hnodup : is.Nodup := hp.1.filter _
  refine ⟨_, afterEndings_foldl _ s.supplyLost is hnodup fun i hi => ?_, ?_⟩
  · obtain ⟨o, m, hx, -⟩ := slot_of_decided (hdecided i hi)
    rw [hx]
    rfl
  · rw [loseSupply_eq, ← foldl_endBraked_eq _ is _ hnodup hdecided]
    refine dispatchIfEnded_blocked ((blocked_iff _).2 (.inr (.inr (.inl ?_))))
    rw [(sameOutside_settle _).supply_eq,
      (sameOutside_foldl _ (fun t i => sameOutside_endBraked t i) _ _).supply_eq]
    rfl

theorem onSupplyOut_taken {s : State} {m : Move} (h : m.phase.driving = true ∨ m.phase = .held) :
    s.onSupplyOut m = s.suspend m := if_pos h

theorem supplyInRange_armed {s : State} (h : s.armed = true) :
    s.supplyInRange = ({ s with insideOuter := true, armed := false } : State).recover := if_pos h

theorem recover_out {s : State} (h : s.supply = .out) :
    s.recover = { s with
      supply := .recovering (s.settings.restart.toNat * 200000), restartRun := s.restartRun + 1 } := by
  rw [State.recover, h]
  rfl

theorem recover_other {s : State} (h : s.supply ≠ .out) : s.recover = s := by
  unfold State.recover
  split
  · next hs => exact absurd hs h
  all_goals rfl

/-- Settles O44. -/
theorem supplyEvents : Obligations.SupplyEvents := by
  refine ⟨fun s hl hi hs hp hm => ?_, fun s hl hi hs => ?_, fun s hl ha => ⟨fun hs => ?_, fun hs => ?_⟩,
    fun s hl => whenLive_live _ s hl, fun s hi => whenLive_same (if_neg (by rw [hi]; exact Bool.false_ne_true)),
    fun s ha => whenLive_same (if_neg (by rw [ha]; exact Bool.false_ne_true))⟩
  · let t : State := ({ s with insideOuter := false, armed := true } : State).setFlag .supplyOut
    obtain ⟨w, hw, hlose⟩ := loseSupply_ends t hp hm
    refine ⟨t.supplyLost, w, supplyLost_eq t, fun i o m hx hd => ?_, fun i hi => ?_, hw, ?_⟩
    · rw [slot_supplyLost, show t.slot i = _ from hx, SlotState.mapMove, onSupplyOut_taken hd]
      rfl
    · refine slot_onMoves_same (s := { t with supply := .out }) fun o m hx => if_neg ?_
      rw [show s.slot i = _ from hx] at hi
      obtain ⟨hd, hh⟩ := Bool.or_eq_false_iff.1 hi
      rintro (h | h)
      · exact absurd (hd.symm.trans h) Bool.false_ne_true
      · exact beq_eq_false_iff_ne.1 hh h
    · refine (whenLive_live _ s hl).trans ?_
      rw [supplyOut_inside hi hs]
      exact congrArg _ hlose
  · refine (whenLive_live _ s hl).trans ?_
    rw [supplyOut_out hi hs]
    rfl
  · refine (whenLive_live _ s hl).trans ?_
    rw [supplyInRange_armed ha, recover_out (s := { s with insideOuter := true, armed := false }) hs]
  · refine (whenLive_live _ s hl).trans ?_
    rw [supplyInRange_armed ha, recover_other (s := { s with insideOuter := true, armed := false }) hs]

/-! ### Thermal (R135 to R141) -/

theorem setDuty_not_driving {s : State} {m : Move} (h : m.phase.driving = false) : s.setDuty m = m :=
  if_neg (by rw [h]; exact Bool.false_ne_true)

/-- The WARM cap stands in WARM alone (R94). -/
theorem capped_warm {s : State} (h : s.thermal = .warm) (d : Byte) :
    s.capped d = if s.settings.warmCap < d then s.settings.warmCap else d := by
  rw [State.capped, h]
  simp only [true_and]

theorem capped_other {s : State} (h : s.thermal ≠ .warm) (d : Byte) : s.capped d = d := if_neg fun hw => h hw.1

theorem slot_recap_active {s : State} {i : SlotNo} {o : Order} {m : Move} (h : s.slot i = .active o m) :
    s.recap.slot i = .active o (s.setDuty m) :=
  slot_onMoves_active _ h

theorem slot_recap_same {s : State} {i : SlotNo} (h : (s.slot i).inPhase Phase.driving = false) :
    s.recap.slot i = s.slot i :=
  slot_onMoves_same fun o m hx => setDuty_not_driving (by rwa [inPhase_active hx] at h)

/-- Without the cap the current duty is the phase duty, whoever holds the grant (R94). -/
theorem setDuty_open {s : State} {m : Move} (hd : m.phase.driving = true) (h : s.thermal ≠ .warm) :
    s.setDuty m = { m with duty := m.phaseDuty } := by
  by_cases he : m.extHeld = true
  · exact setDuty_uncapped hd he
  · rw [setDuty_capped hd (Bool.not_eq_true _ ▸ he), capped_other h]

theorem warnRise_normal {s : State} (hw : s.warnSet = false) (ht : s.thermal = .normal) :
    s.warnRise = (({ s with warnSet := true, thermal := .warm } : State).setFlag .thermalWarn).recap.settle := by
  rw [State.warnRise, if_neg (by rw [hw]; exact Bool.false_ne_true)]
  exact if_pos ht

theorem warnRise_other {s : State} (hw : s.warnSet = false) (ht : s.thermal ≠ .normal) :
    s.warnRise = { s with warnSet := true } := by
  rw [State.warnRise, if_neg (by rw [hw]; exact Bool.false_ne_true)]
  exact if_neg ht

theorem warnFall_warm {s : State} (hw : s.warnSet = true) (ht : s.thermal = .warm) :
    s.warnFall = ({ s with warnSet := false, thermal := .normal } : State).recap.settle := by
  rw [State.warnFall, if_pos hw]
  exact if_pos ht

theorem warnFall_other {s : State} (hw : s.warnSet = true) (ht : s.thermal ≠ .warm) :
    s.warnFall = { s with warnSet := false } := by
  rw [State.warnFall, if_pos hw]
  exact if_neg ht

/-- In SHUTDOWN no pass follows the endings (R70, R139). -/
theorem shutdownRise_taken {s : State} (hc : s.shutdownSet = false) (ht : s.thermal = .warm ∨ s.thermal = .cooled) :
    s.shutdownRise = (s.shutDown.endOrders .thermal (s.accepted fun x => x.move.isSome)).settle := by
  rw [State.shutdownRise, if_pos ⟨hc, ht⟩]
  refine dispatchIfEnded_blocked ((blocked_iff _).2 (.inr (.inr (.inr (.inr (.inl ?_))))))
  rw [(sameOutside_settle _).thermal_eq, (sameOutside_endOrders _ _ _).thermal_eq]
  rfl

theorem shutdownFall_shutdown {s : State} (hc : s.shutdownSet = true) (ht : s.thermal = .shutdown) :
    s.shutdownFall = ({ s with shutdownSet := false, thermal := .cooled } : State).setFlag .thermalCooled := by
  rw [State.shutdownFall, if_pos hc]
  exact if_pos ht

theorem shutdownFall_other {s : State} (hc : s.shutdownSet = true) (ht : s.thermal ≠ .shutdown) :
    s.shutdownFall = { s with shutdownSet := false } := by
  rw [State.shutdownFall, if_pos hc]
  exact if_neg ht

theorem shutdownRise_dropped {s : State} (h : s.shutdownSet = true ∨ s.thermal = .normal ∨ s.thermal = .shutdown) :
    s.shutdownRise = s := by
  refine if_neg ?_
  rintro ⟨hc, ht⟩
  obtain h | h | h := h
  · rw [hc] at h; cases h
  all_goals rw [h] at ht; simp at ht

/-- Settles O45. -/
theorem thermalEvents : Obligations.ThermalEvents := by
  refine ⟨fun s hl hw ht => ?_, fun s hl hw ht => ?_, fun s hl hw ht => ?_, fun s hl hw ht => ?_,
    fun s hl hc ht hp => ?_, fun s hl hc ht => ?_, fun s hl hc ht => ?_,
    fun s => ⟨fun hw => whenLive_same (if_pos hw),
      fun hw => whenLive_same (if_neg (by rw [hw]; exact Bool.false_ne_true)),
      fun h => whenLive_same (shutdownRise_dropped h),
      fun hc => whenLive_same (if_neg (by rw [hc]; exact Bool.false_ne_true))⟩,
    fun c s t => leaves_cooled⟩
  · let t : State := ({ s with warnSet := true, thermal := .warm } : State).setFlag .thermalWarn
    refine ⟨t.recap, rfl, fun i o m hx hd he => ?_, fun i o m hx hd he => ?_, fun i hi => slot_recap_same (s := t) hi,
      (whenLive_live _ s hl).trans (congrArg _ (warnRise_normal hw ht))⟩
    · rw [slot_recap_active (s := t) hx, setDuty_capped hd he, capped_warm rfl]
      rfl
    · rw [slot_recap_active (s := t) hx, setDuty_uncapped hd he]
  · exact (whenLive_live _ s hl).trans (congrArg _ (warnRise_other hw ht))
  · let t : State := { s with warnSet := false, thermal := .normal }
    refine ⟨t.recap, rfl, fun i o m hx hd => ?_, fun i hi => slot_recap_same (s := t) hi,
      (whenLive_live _ s hl).trans (congrArg _ (warnFall_warm hw ht))⟩
    rw [slot_recap_active (s := t) hx, setDuty_open hd (show Thermal.normal ≠ .warm from nofun)]
  · exact (whenLive_live _ s hl).trans (congrArg _ (warnFall_other hw ht))
  · refine ⟨_, afterEndings_endOrders .thermal s.shutDown _ (hp.1.filter _) fun i hi => ?_,
      (whenLive_live _ s hl).trans (congrArg _ (shutdownRise_taken hc ht))⟩
    exact holdsOrder_of_move (List.mem_filter.1 hi).2
  · exact (whenLive_live _ s hl).trans (congrArg _ (shutdownFall_shutdown hc ht))
  · exact (whenLive_live _ s hl).trans (congrArg _ (shutdownFall_other hc ht))

end Sys2Proof.Machine
end

section
/-! PROOF. The commands of COMMAND at 07h (R176): what each answers, and what the port shows after it. -/

namespace Sys2Proof.Machine

/-- A write row that keeps the port leaves the pointer at the next address (R168). -/
theorem writeRow_keeping {a : Addr} {f : State → State} {s : State} (h : s.Writing a) (hp : (f s).port = s.port) :
    writeRow a f s = .next ((f s).written a) := by
  rw [writeRow_at a f s h, advance_write s _ a h hp]

/-! ### SET_POSITION (R18), RUN (R66), CLEAR_THERMAL (R142), UNKNOWN (R176) -/

theorem cmdSetPosition_badArg {s : State} (h : 8 ≤ s.cmdArg.toNat) : s.cmdSetPosition = s.result .badArg := by
  rw [State.cmdSetPosition, actOf_of_le h]

theorem cmdSetPosition_refused {s : State} {a : ActNo} (ha : s.cmdArg.toNat = a.val)
    (h : (s.act a).config.enable ≠ 1 ∨ (s.act a).activeSlot ≠ none) : s.cmdSetPosition = s.result .state := by
  rw [State.cmdSetPosition, actOf_of_toNat_eq ha]
  refine if_neg fun hp => ?_
  obtain ⟨he, hs⟩ := hp
  exact h.elim (fun hne => hne ((enabled_iff _).1 he)) fun hne => hne hs

theorem cmdSetPosition_placed {s : State} {a : ActNo} (ha : s.cmdArg.toNat = a.val)
    (he : (s.act a).config.enable = 1) (hs : (s.act a).activeSlot = none) :
    s.cmdSetPosition = (s.setAct a ((s.act a).place s.cmdValue)).result .ok := by
  rw [State.cmdSetPosition, actOf_of_toNat_eq ha]
  exact if_pos ⟨(enabled_iff _).2 he, hs⟩

/-- Settles O27. -/
theorem setPositionPlacesTheActuator : Obligations.SetPositionPlacesTheActuator := by
  intro s hw
  have hexec : exec .setPosition s = .next (s.cmdSetPosition.written 0x07) :=
    writeRow_keeping hw (standsAs_cmdSetPosition s).1
  refine ⟨fun h => ?_, fun a ha => ⟨fun h => ?_, fun he hs => ?_⟩⟩
  · rw [hexec, cmdSetPosition_badArg h]
    rfl
  · rw [hexec, cmdSetPosition_refused ha h]
    rfl
  · rw [hexec, cmdSetPosition_placed ha he hs]
    rfl

theorem recap_eq_self {s : State} (h : ∀ i, (s.slot i).inPhase Phase.driving = false) : s.recap = s :=
  eq_of_slots rfl fun i => slot_recap_same (h i)

/-- In COOLED no move is active (R136). -/
theorem not_driving_of_cooled {s : State} (hc : s.thermal = .cooled) (hs : s.MonitorLaw) (i : SlotNo) :
    (s.slot i).inPhase Phase.driving = false := by
  have hi := hs.1 i
  cases hx : s.slot i with
  | active o m =>
    rw [hx] at hi
    have hallows : s.allows m = true := hi
    simp [State.allows, hc] at hallows
  | _ => rfl

theorem cmdClearThermal_cooled {s : State} (hc : s.thermal = .cooled) (hs : s.MonitorLaw) (hd : s.DemandLaw) :
    s.cmdClearThermal =
      ({ s with thermal := if s.warnSet then .warm else .normal, cmdResult := .ok } : State).dispatch := by
  let t : State := { s with thermal := if s.warnSet then .warm else .normal }
  have hrecap : t.recap = t := recap_eq_self fun i => not_driving_of_cooled hc hs i
  have hsettle : t.settle = t := settle_eq_self t hd
  rw [State.cmdClearThermal, if_pos hc, show State.recap _ = t from hrecap, hsettle]
  rfl

theorem cmdClearThermal_refused {s : State} (h : s.thermal ≠ .cooled) : s.cmdClearThermal = s.result .state :=
  if_neg h

/-- Settles O28. -/
theorem runClearThermalAndUnknown : Obligations.RunClearThermalAndUnknown := by
  refine ⟨fun s hw => writeRow_keeping hw (standsAs_cmdRun s).1, fun s hw hc hs hd => ?_, fun s hw hc => ?_,
    fun code s hw hc => ?_⟩
  · refine (writeRow_keeping hw (port_cmdClearThermal s)).trans ?_
    rw [cmdClearThermal_cooled hc hs hd]
  · refine (writeRow_keeping hw (port_cmdClearThermal s)).trans ?_
    rw [cmdClearThermal_refused hc]
    rfl
  · have hcode : commandCodes.contains code = false := by simpa using hc
    refine (if_neg (by rw [hcode]; exact Bool.false_ne_true)).trans ?_
    exact writeRow_keeping hw rfl

/-! ### STOP and the cancels (R127, R129, R130) -/

/-- Of the orders in the pool all but the BRAKING moves are decided or ended (R127, R130). -/
theorem withdrawn_iff {x : SlotState} (h : x.holdsOrder = true) :
    (x.drives || x.endsAtOnce) = !x.inPhase (· == .braking) := by
  cases x with
  | free => cases h
  | queued o => rfl
  | active o m =>
    simp only [SlotState.drives, SlotState.inPhase, SlotState.move, SlotState.endsAtOnce]
    cases m.phase <;> rfl
  | waiting o n => rfl
  | done r => cases h

theorem holdsOrder_of_mem {s : State} (hp : s.PoolLaw) {i : SlotNo} (h : i ∈ s.acceptance) :
    (s.slot i).holdsOrder = true :=
  (hp.2.2.1 i).1 h

theorem countWithdrawn_eq {s : State} (hp : s.PoolLaw) (p : SlotNo → Bool) :
    BitVec.ofNat 8 (s.countWithdrawn (s.acceptance.filter p)) = s.withdrawalCount p := by
  rw [State.withdrawalCount, State.countWithdrawn, List.countP_filter]
  refine congrArg _ (List.countP_congr fun i hi => ?_)
  rw [withdrawn_iff (holdsOrder_of_mem hp hi), Bool.and_comm]

/-- Settles O29: in STOPPED no pass follows. -/
theorem stopEndsActiveOrders : Obligations.StopEndsActiveOrders := by
  intro s hw hp
  refine ⟨_, afterWithdrawal_withdraw { s with running := false } .stopped _ hp, ?_⟩
  refine (writeRow_keeping hw (standsAs_cmdStop s).1).trans ?_
  have hblocked : (({ s with running := false } : State).withdraw .stopped s.activeOrders).blocked = true :=
    (blocked_iff _).2 (.inl (sameOutside_withdraw _ _ _).running_eq)
  have hcount : BitVec.ofNat 8 (s.countWithdrawn s.activeOrders) = s.withdrawalCount fun i => (s.slot i).isActive :=
    countWithdrawn_eq hp _
  rw [State.cmdStop, dispatchIfEnded_blocked (by exact hblocked), State.resultCount, hcount]
  rfl

theorem completion_withdraw {s : State} (hp : s.PoolLaw) (e : Ending) (p : SlotNo → Bool) :
    (s.withdraw e (s.acceptance.filter p)).completion =
      s.completion ++ s.acceptance.filter fun i => p i && (s.slot i).endsAtOnce := by
  obtain ⟨u, w, hu, -, ⟨-, -, -, -, hcompletion, -⟩, ht⟩ := afterWithdrawal_withdraw s e p hp
  rw [ht, show w.settle.completion = w.completion from rfl, hcompletion, hu]

theorem cancel_eq {s : State} (hp : s.PoolLaw) (p : SlotNo → Bool) :
    s.cancel (s.acceptance.filter p) =
      ({ s.withdraw .cancelled (s.acceptance.filter p) with
        cmdResult := .ok, cmdDetail := s.withdrawalCount p } : State).dispatchIfEnded s := by
  rw [State.cancel, State.resultCount, countWithdrawn_eq hp]

theorem slotOf_of_toNat_eq {v : Byte} {i : SlotNo} (h : v.toNat = i.val) : slotOf v = some i := by
  have hv : v.toNat < 16 := h ▸ i.isLt
  rw [slotOf, dif_pos hv]
  exact congrArg some (Fin.ext h)

theorem slotOf_of_le {v : Byte} (h : 16 ≤ v.toNat) : slotOf v = none := by
  rw [slotOf, dif_neg (Nat.not_lt.2 h)]

theorem hasTag_iff (t : Byte) (x : SlotState) : x.hasTag t = true ↔ ∃ o, x.order = some o ∧ o.tag = t := by
  unfold SlotState.hasTag
  cases x.order with
  | none => simp
  | some o => simp

/-- The orders that each cancel matches (R129). -/
theorem exec_cancel {s : State} {c : Instr} {p : SlotNo → Bool} (hw : s.Writing 0x07)
    (h : (c = .cancelAct ∧ ∃ a : ActNo, s.cmdArg.toNat = a.val ∧ ∀ i, p i = (s.slot i).ordersFor a) ∨
      (c = .cancelTag ∧ ∀ i, p i = true ↔ ∃ o, (s.slot i).order = some o ∧ o.tag = s.cmdArg) ∨
      (c = .cancelSlot ∧ ∃ j : SlotNo, s.cmdArg.toNat = j.val ∧ ∀ i, p i = (i == j)) ∨
      (c = .cancelAll ∧ ∀ i, p i = true)) :
    exec c s = .next ((s.cancel (s.acceptance.filter p)).written 0x07) := by
  obtain ⟨rfl, a, ha, hp⟩ | ⟨rfl, hp⟩ | ⟨rfl, j, hj, hp⟩ | ⟨rfl, hp⟩ := h
  · obtain rfl : p = fun i => (s.slot i).ordersFor a := funext hp
    refine (writeRow_keeping hw (standsAs_cmdCancelAct s).1).trans ?_
    rw [State.cmdCancelAct, actOf_of_toNat_eq ha]
    rfl
  · obtain rfl : p = fun i => (s.slot i).hasTag s.cmdArg :=
      funext fun i => Bool.eq_iff_iff.2 ((hp i).trans (hasTag_iff _ _).symm)
    exact writeRow_keeping hw (standsAs_cancel _ s).1
  · obtain rfl : p = fun i => i == j := funext hp
    refine (writeRow_keeping hw (standsAs_cmdCancelSlot s).1).trans ?_
    rw [State.cmdCancelSlot, slotOf_of_toNat_eq hj]
  · obtain rfl : p = fun _ => true := funext hp
    rw [List.filter_true]
    exact writeRow_keeping hw (standsAs_cancel _ s).1

/-- Settles O31. -/
theorem cancelsWithdrawMatchedOrders : Obligations.CancelsWithdrawMatchedOrders := by
  intro s hw hp
  refine ⟨fun h => ?_, fun h => ?_, fun c p hc => ⟨_, afterWithdrawal_withdraw s .cancelled p hp, ?_, ?_⟩⟩
  · refine (writeRow_keeping hw (standsAs_cmdCancelAct s).1).trans ?_
    rw [State.cmdCancelAct, actOf_of_le h]
    rfl
  · refine (writeRow_keeping hw (standsAs_cmdCancelSlot s).1).trans ?_
    rw [State.cmdCancelSlot, slotOf_of_le h]
    rfl
  · rintro ⟨i, hi, hends⟩
    rw [exec_cancel hw hc, cancel_eq hp, dispatchIfEnded_ended]
    have hne : 0 < (s.acceptance.filter fun i => p i && (s.slot i).endsAtOnce).length :=
      List.length_pos_of_mem (List.mem_filter.2 ⟨hi, hends⟩)
    rw [completion_withdraw hp, List.length_append]
    omega
  · intro hnone
    rw [exec_cancel hw hc, cancel_eq hp, dispatchIfEnded_same]
    rw [completion_withdraw hp, List.filter_eq_nil_iff.2 fun i hi => by rw [hnone i hi]; exact Bool.false_ne_true,
      List.append_nil]

/-! ### RESUME (R121, R122) -/

/-- Settles O30. -/
theorem resumeReturnsSuspendedMoves : Obligations.ResumeReturnsSuspendedMoves := by
  intro s hw
  have hexec : exec .resume s = .next (s.cmdResume.written 0x07) := writeRow_keeping hw (standsAs_cmdResume s).1
  refine ⟨fun h => ?_, fun h => ⟨s.returning .suspended s.resumeMove, s.returned .suspended s.resumeMove,
    returning_eq s _ _, returned_eq s _ _, fun i hi => slot_returned_other _ hi, fun i o m hx hp hh => ?_,
    fun i o m n hx hp hh hn => ?_, ?_⟩⟩
  · rw [hexec, State.cmdResume, if_neg h]
    rfl
  · obtain ⟨hu, -, hw⟩ := slot_returned_phase hx hp (resumeMove_pending (s := s) hh)
    exact ⟨hu, (hw (.inl rfl)).trans hu.symm⟩
  · exact slot_returned_phase hx hp ((resumeMove_free hh).trans hn.symm)
  · rw [hexec, State.cmdResume, if_pos h]
    rfl

/-! ### CLEAR_LEG (R36) -/

theorem clears_iff (s : State) (mask : Byte) (k : LegNo) :
    s.clears mask k = true ↔ mask.getLsbD k.val = true ∧ (s.leg k).state = .off := by
  rw [State.clears, maskNames, Bool.and_eq_true, beq_iff_eq]

theorem enter_float_of_off {l : Leg} (h : l.state = .off) : l.enter .float = { l with state := .float } := by
  rw [Leg.enter, h]
  rfl

/-- Settles O32. -/
theorem clearLegReturnsLatchedLegs : Obligations.ClearLegReturnsLatchedLegs := by
  intro s hw
  have hexec : exec .clearLeg s = .next (s.cmdClearLeg.written 0x07) := writeRow_keeping hw (standsAs_cmdClearLeg s).1
  let f : LegNo → Leg → Leg := fun k l => if s.clears s.cmdArg k then l.enter .float else l
  refine ⟨fun h => ?_, fun h6 h7 => ⟨(s.mapLegs f).resultCount ((List.finRange 6).countP (s.clears s.cmdArg)),
    rfl, fun k hk hoff => ?_, fun k hk => ?_, ?_⟩⟩
  · rw [hexec, State.cmdClearLeg, if_pos (Bool.or_eq_true_iff.2 h)]
    rfl
  · refine (leg_mapLegs s f k).trans ((if_pos ((clears_iff _ _ _).2 ⟨hk, hoff⟩)).trans ?_)
    exact enter_float_of_off hoff
  · refine (leg_mapLegs s f k).trans (if_neg ?_)
    rw [clears_iff]
    rintro ⟨hm, hoff⟩
    exact hk.elim (fun h => Bool.false_ne_true (h.symm.trans hm)) fun h => h hoff
  · rw [hexec, State.cmdClearLeg, if_neg (by rw [h6, h7]; exact Bool.false_ne_true)]

/-! ### MOTION_RESET (R133) -/

theorem cutOff_leg_eq (l : Leg) :
    l.cutOff = { state := if l.state = .off then .off else .float, claims := []
                 run := if l.state.conducting then l.run + 1 else l.run } := by
  unfold Leg.cutOff Leg.enter
  cases l.state <;> rfl

theorem cutOff_idle {e : Actuator} (h : e.activeSlot = none) : e.cutOff = e := by
  unfold Actuator.cutOff
  rw [h, Option.isNone_none, Bool.and_true, ← h]

theorem cutOff_moving {e : Actuator} (h : e.activeSlot ≠ none) :
    e.cutOff = { e with valid := false, activeSlot := none } := by
  unfold Actuator.cutOff
  rw [Option.isNone_eq_false_iff.2 (Option.isSome_iff_ne_none.2 h), Bool.and_false]

theorem flags_cmdMotionReset (s : State) :
    s.cmdMotionReset.flags =
      if (List.finRange 8).any fun a => (s.act a).losesByReset then s.flags ||| 0x0200 else s.flags := by
  unfold State.cmdMotionReset
  dsimp only
  cases (List.finRange 8).any fun a => (s.act a).losesByReset <;> rfl

theorem cmdMotionReset_eq (s : State) :
    s.cmdMotionReset = { s with
      slots := s.cmdMotionReset.slots, acceptance := [], completion := [], legs := s.cmdMotionReset.legs, grant := none
      running := false, acts := s.cmdMotionReset.acts, flags := s.cmdMotionReset.flags, cmdResult := .ok
      cmdDetail := BitVec.ofNat 8 ((List.finRange 16).countP fun i => !(s.slot i).isFree) } := by
  simp only [State.cmdMotionReset, State.resultCount, setFlagIf_eq, State.mapLegs, State.mapActs, State.countSlots]

theorem losesByReset_iff (e : Actuator) : e.losesByReset = true ↔ e.activeSlot ≠ none ∧ e.valid = true := by
  rw [Actuator.losesByReset, Bool.and_eq_true, Option.isSome_iff_ne_none, and_comm]

/-- Settles O33. -/
theorem motionResetDiscardsTheFlight : Obligations.MotionResetDiscardsTheFlight := by
  intro s hw
  refine ⟨_, exec_motionReset_at s hw, ?_, fun i => cmdMotionReset_slot s i,
    fun k => (leg_cmdMotionReset s k).trans (cutOff_leg_eq _),
    fun a ha => (act_cmdMotionReset s a).trans (cutOff_idle ha),
    fun a ha => (act_cmdMotionReset s a).trans (cutOff_moving ha), fun ⟨a, ha, hv⟩ => ?_, fun h => ?_⟩
  · exact congrArg (fun t : State => t.written 0x07) (cmdMotionReset_eq s)
  · refine (flags_cmdMotionReset s).trans (if_pos (List.any_eq_true.2 ⟨a, List.mem_finRange a, ?_⟩))
    exact (losesByReset_iff _).2 ⟨ha, hv⟩
  · refine (flags_cmdMotionReset s).trans (if_neg fun hany => ?_)
    obtain ⟨a, -, ha⟩ := List.any_eq_true.1 hany
    obtain ⟨ha, hv⟩ := (losesByReset_iff _).1 ha
    exact Bool.false_ne_true ((h a ha).symm.trans hv)

end Sys2Proof.Machine
end

section
/-! PROOF. Writes with an effect at once: the mask and ATTN (R161, R162), the pass limit and the WARM cap (R81, R95), SUBMIT (R57) and APPLY (R7 to R12). -/

namespace Sys2Proof.Machine

/-! ### Halves of a 16-bit value, bit by bit (R168) -/

theorem lowByte_getLsbD (v : Half) (n : Nat) : (lowByte v).getLsbD n = (decide (n < 8) && v.getLsbD n) :=
  BitVec.getLsbD_setWidth 8 v n

theorem highByte_getLsbD (v : Half) (n : Nat) : (highByte v).getLsbD n = (decide (n < 8) && v.getLsbD (8 + n)) := by
  rw [highByte, BitVec.getLsbD_setWidth, BitVec.getLsbD_ushiftRight]

theorem withLow_getLsbD (v : Half) (b : Byte) (n : Nat) :
    (withLow v b).getLsbD n = if n < 8 then b.getLsbD n else v.getLsbD n := by
  rw [withLow, BitVec.getLsbD_append]
  split
  · rfl
  · next h =>
    have hv : 16 ≤ n → v.getLsbD n = false := v.getLsbD_of_ge n
    rw [highByte_getLsbD, Nat.add_sub_cancel' (Nat.not_lt.1 h)]
    by_cases hn : n < 16
    · rw [decide_eq_true (by omega), Bool.true_and]
    · rw [hv (by omega), Bool.and_false]

theorem withHigh_getLsbD (v : Half) (b : Byte) (n : Nat) :
    (withHigh v b).getLsbD n = if n < 8 then v.getLsbD n else b.getLsbD (n - 8) := by
  rw [withHigh, BitVec.getLsbD_append]
  split
  · next h => rw [lowByte_getLsbD, decide_eq_true h, Bool.true_and]
  · rfl

theorem lowByte_withLow (v : Half) (b : Byte) : lowByte (withLow v b) = b :=
  BitVec.eq_of_getLsbD_eq fun n hn => by
    rw [lowByte_getLsbD, withLow_getLsbD, if_pos hn, decide_eq_true hn, Bool.true_and]

theorem highByte_withLow (v : Half) (b : Byte) : highByte (withLow v b) = highByte v :=
  BitVec.eq_of_getLsbD_eq fun n hn => by
    rw [highByte_getLsbD, withLow_getLsbD, if_neg (by omega), highByte_getLsbD]

theorem highByte_withHigh (v : Half) (b : Byte) : highByte (withHigh v b) = b :=
  BitVec.eq_of_getLsbD_eq fun n hn => by
    rw [highByte_getLsbD, withHigh_getLsbD, if_neg (by omega), decide_eq_true hn, Bool.true_and,
      Nat.add_sub_cancel_left]

theorem lowByte_withHigh (v : Half) (b : Byte) : lowByte (withHigh v b) = lowByte v :=
  BitVec.eq_of_getLsbD_eq fun n hn => by
    rw [lowByte_getLsbD, withHigh_getLsbD, if_pos hn, lowByte_getLsbD]

/-! ### The mask and ATTN (R156, R161, R162) -/

theorem maskBits_getLsbD {n : Nat} (hn : n < 16) : maskBits.getLsbD n = decide (n < 12) := by
  revert hn n
  decide

theorem exec_maskWrite_low (v : Byte) (s : State) (h : s.Writing 0x04) :
    exec (.maskWrite v) s = .next ((s.writeMask 0x04 v).written 0x04) := by
  have hn : ¬ s.Writing 0x05 := fun k => absurd (writing_unique h k) (by decide)
  rw [← writesAt_iff] at hn
  exact (if_neg hn).trans (writeRow_keeping h (standsAs_writeMask _ v s).1)

theorem exec_maskWrite_high (v : Byte) (s : State) (h : s.Writing 0x05) :
    exec (.maskWrite v) s = .next ((s.writeMask 0x05 v).written 0x05) :=
  (if_pos ((writesAt_iff s 0x05).2 h)).trans (writeRow_keeping h (standsAs_writeMask _ v s).1)

theorem mask_writeMask_low (v : Byte) (s : State) {n : Nat} (hn : n < 16) :
    (s.writeMask 0x04 v).mask.getLsbD n =
      if n < 8 then v.getLsbD n else if n < 12 then s.mask.getLsbD n else false := by
  have hmask : (s.writeMask 0x04 v).mask = withLow s.mask v &&& maskBits := rfl
  rw [hmask, BitVec.getLsbD_and, withLow_getLsbD, maskBits_getLsbD hn]
  grind

theorem mask_writeMask_high (v : Byte) (s : State) {n : Nat} (hn : n < 16) :
    (s.writeMask 0x05 v).mask.getLsbD n =
      if n < 8 then s.mask.getLsbD n else if n < 12 then v.getLsbD (n - 8) else false := by
  have hmask : (s.writeMask 0x05 v).mask = withHigh s.mask v &&& maskBits := rfl
  rw [hmask, BitVec.getLsbD_and, withHigh_getLsbD, maskBits_getLsbD hn]
  grind

theorem lowNibble_getLsbD {n : Nat} (hn : n < 8) : (0x0F : Byte).getLsbD n = decide (n < 4) := by
  revert hn n
  decide

/-- Settles O19. -/
theorem maskWriteStoresTheMask : Obligations.MaskWriteStoresTheMask := by
  refine ⟨fun v s hw => ⟨_, exec_maskWrite_low v s hw, rfl, ?_, fun n hn => mask_writeMask_low v s hn⟩,
    fun v s hw => ⟨_, exec_maskWrite_high v s hw, rfl, ?_, fun n hn => mask_writeMask_high v s hn⟩⟩
  · refine BitVec.eq_of_getLsbD_eq fun n hn => ?_
    refine (lowByte_getLsbD (s.writeMask 0x04 v).mask n).trans ?_
    rw [mask_writeMask_low v s (by omega), if_pos hn, decide_eq_true hn, Bool.true_and]
  · refine BitVec.eq_of_getLsbD_eq fun n hn => ?_
    refine (highByte_getLsbD (s.writeMask 0x05 v).mask n).trans ?_
    rw [mask_writeMask_high v s (by omega), if_neg (by omega), Nat.add_sub_cancel_left, BitVec.getLsbD_and,
      lowNibble_getLsbD hn, decide_eq_true hn, Bool.true_and]
    grind

theorem ne_zero_iff_getLsbD {w : Nat} (x : BitVec w) : x ≠ 0 ↔ ∃ n, n < w ∧ x.getLsbD n = true := by
  refine ⟨fun h => ?_, ?_⟩
  · by_contra hn
    push Not at hn
    exact h (BitVec.eq_of_getLsbD_eq fun n hw => by simpa using hn n hw)
  · rintro ⟨n, -, hx⟩ rfl
    simp at hx

theorem attn_iff (s : State) :
    s.attn = true ↔ ∃ n, n < 16 ∧ s.eventFlags.getLsbD n = true ∧ s.mask.getLsbD n = true := by
  rw [State.attn, bne_iff_ne, ne_zero_iff_getLsbD]
  simp only [BitVec.getLsbD_and, Bool.and_eq_true]

theorem complete_iff (s : State) : s.complete = true ↔ ∃ i ∈ s.completion, (s.slot i).notified = true := by
  rw [State.complete, decide_eq_true_iff, State.level, List.countP_pos_iff]

/-- Bit 0 of the flag register holds nothing (R157). -/
theorem flags_getLsbD_zero {s : State} (h : s.StoreLaw) : s.flags.getLsbD 0 = false := by
  obtain ⟨-, -, hflags, -⟩ := h
  have hbit := congrArg (BitVec.getLsbD · 0) hflags
  simpa [BitVec.getLsbD_and, BitVec.getLsbD_not, stickyBits] using hbit

theorem eventFlags_getLsbD_zero {s : State} (h : s.StoreLaw) : s.eventFlags.getLsbD 0 = s.complete := by
  rw [State.eventFlags, BitVec.getLsbD_or, flags_getLsbD_zero h, Bool.false_or]
  cases s.complete <;> rfl

theorem eventFlags_getLsbD_sticky (s : State) {n : Nat} (hn : 1 ≤ n) :
    s.eventFlags.getLsbD n = s.flags.getLsbD n := by
  have hword : (if s.complete then (1 : Half) else 0).getLsbD n = false := by
    have hne : n ≠ 0 := by omega
    cases s.complete
    · simp
    · simp [BitVec.getLsbD_one, hne]
  rw [State.eventFlags, BitVec.getLsbD_or, hword, Bool.or_false]

/-- Settles O20. -/
theorem attnShowsSelectedFlags : Obligations.AttnShowsSelectedFlags := fun s hs =>
  ⟨attn_iff s, by rw [eventFlags_getLsbD_zero hs, complete_iff], fun _ hn => eventFlags_getLsbD_sticky s hn,
    statusByte_attn s, rfl, rfl⟩

/-! ### The pass limit and the WARM cap (R81, R94, R95) -/

theorem clamp_zero (hi v : Byte) : clamp 0 hi v = if hi < v then hi else v :=
  if_neg (by simp)

theorem newlyPressing_passLimit_iff (s : State) (p : Byte) :
    newlyPressing s { s with settings := { s.settings with passLimit := p } } = true ↔
      ∃ i o, s.slot i = .queued o ∧ o.kind ≠ .fence ∧ (p ≠ 0 ∧ p.toNat ≤ o.pass.toNat) ∧
        ¬ (s.settings.passLimit ≠ 0 ∧ s.settings.passLimit.toNat ≤ o.pass.toNat) := by
  simp only [newlyPressing, List.any_eq_true, List.mem_finRange, true_and, Bool.and_eq_true, Bool.not_eq_true',
    ← Bool.not_eq_true]
  refine exists_congr fun i => ?_
  change ((s.slot i).pressing p = true ∧ _) ↔ _
  cases hx : s.slot i with
  | queued o =>
    simp only [pressing_queued_iff, SlotState.queued.injEq, exists_eq_left']
    tauto
  | _ => simp [SlotState.pressing]

theorem writePassLimit_eq (v : Byte) (s : State) :
    s.writePassLimit v =
      ({ s with settings := { s.settings with passLimit := if 15 < v then 15 else v } } : State).setFlagIf
        (newlyPressing s { s with settings := { s.settings with passLimit := if 15 < v then 15 else v } })
        .pressing := by
  rw [State.writePassLimit, clamp_zero]

theorem writeWarmCap_warm {v : Byte} {s : State} (h : s.thermal = .warm) :
    s.writeWarmCap v = ({ s with settings := { s.settings with warmCap := clamp 8 64 v } } : State).recap.settle :=
  if_pos h

theorem writeWarmCap_other {v : Byte} {s : State} (h : s.thermal ≠ .warm) :
    s.writeWarmCap v = { s with settings := { s.settings with warmCap := clamp 8 64 v } } :=
  if_neg h

/-- Settles O22. -/
theorem limitAndCapWrites : Obligations.LimitAndCapWrites := by
  refine ⟨fun v p s hw hp => ?_, fun v w s hw hc => ?_⟩
  · subst hp
    refine ⟨_, writeRow_keeping hw (standsAs_writePassLimit v s).1, ?_, fun hpress => ?_, fun hpress => ?_⟩
    · rw [writePassLimit_eq, setFlagIf_eq]
      rfl
    · refine (congrArg State.flags (writePassLimit_eq v s)).trans ?_
      rw [(newlyPressing_passLimit_iff s _).2 hpress]
      rfl
    · refine (congrArg State.flags (writePassLimit_eq v s)).trans ?_
      have hno : newlyPressing s { s with settings := { s.settings with passLimit := if 15 < v then 15 else v } } =
          false := by
        rw [← Bool.not_eq_true, newlyPressing_passLimit_iff]
        rintro ⟨i, o, hx, hk, hnew, hold⟩
        exact hold (hpress i o hx hk hnew)
      rw [hno]
      rfl
  · have hc : clamp 8 64 v = w := hc.symm
    refine ⟨fun ht => ?_, fun ht => ?_⟩
    · refine (writeRow_keeping hw (standsAs_writeWarmCap v s).1).trans ?_
      rw [writeWarmCap_other ht, hc]
      rfl
    · let t : State := { s with settings := { s.settings with warmCap := w } }
      refine ⟨t.recap, rfl, fun i o m hx hd he => ?_, fun i o m hx hd he => ?_, fun i o m hx hd => ?_,
        fun i hm => ?_, ?_⟩
      · rw [slot_recap_active (s := t) hx, setDuty_capped hd he, capped_warm (s := t) ht]
      · rw [slot_recap_active (s := t) hx, setDuty_uncapped hd he]
      · exact slot_recap_same (s := t) ((inPhase_active hx).trans hd)
      · exact slot_recap_same (s := t) (by rw [SlotState.inPhase, show (t.slot i).move = none from hm])
      · refine (writeRow_keeping hw (standsAs_writeWarmCap v s).1).trans ?_
        rw [writeWarmCap_warm ht, hc]

/-! ### SUBMIT accepted (R46, R57) -/

theorem freeSlot_lowest {s : State} {i : SlotNo} (h : s.freeSlot = some i) :
    s.slot i = .free ∧ ∀ j, j < i → s.slot j ≠ .free := by
  obtain ⟨hfree, n, hn, hi, hmin⟩ := List.find?_eq_some_iff_getElem.1 h
  refine ⟨(isFree_iff _).1 hfree, fun j hj hx => ?_⟩
  have hjn : j.val < n := by
    rw [List.getElem_finRange] at hi
    rw [← hi] at hj
    exact hj
  have hnot : (!(s.slot j).isFree) = true := by simpa using hmin j.val hjn
  rw [hx] at hnot
  cases hnot

theorem val_of_classOf {b : Byte} {c : ClassNo} (h : classOf b = some c) : c.val = b.toNat := by
  unfold classOf at h
  split at h
  · exact (congrArg Fin.val (Option.some.inj h)).symm
  · cases h

/-- An order that passes the checks is filled from staging into the lowest FREE slot (R46, R54, R57). -/
theorem checkSubmit_fills {s : State} {i : SlotNo} {o : Order} (h : s.checkSubmit = .ok (i, o)) :
    ∃ k a c, s.freeSlot = some i ∧ kindOf s.staging.kind = some k ∧ classOf s.staging.speed = some c ∧
      (k ≠ .fence → actOf s.staging.act = some a) ∧ o = s.staging.order k a c s.serial := by
  unfold State.checkSubmit at h
  split at h
  · cases h
  next j hj =>
  split at h
  · cases h
  next k hk =>
  split at h
  · cases h
  next hen =>
  split at h
  · cases h
  next c hc =>
  dsimp only at h
  split at h
  · cases h
  split at h
  · cases h
  split at h
  · cases h
  cases h
  refine ⟨k, _, c, hj, hk, hc, fun hf => ?_, rfl⟩
  have hstaged : s.stagedEnabled = true := by simpa [hf] using hen
  unfold State.stagedEnabled at hstaged
  cases ha : actOf s.staging.act with
  | none => rw [ha] at hstaged; cases hstaged
  | some a => rfl

theorem submitRequest_accepted {s : State} (h : s.submitRefusal = none) :
    ∃ i o, s.checkSubmit = .ok (i, o) ∧ s.submitRequest = (s.accept i o).dispatch := by
  rw [submitRefusal_eq] at h
  cases hc : s.checkSubmit with
  | error r => rw [hc] at h; cases h
  | ok io => exact ⟨io.1, io.2, rfl, by rw [State.submitRequest, hc]⟩

/-- Settles O24. -/
theorem submitAcceptedQueuesTheOrder : Obligations.SubmitAcceptedQueuesTheOrder := by
  intro v s hw hr
  obtain ⟨i, o, hcheck, hsubmit⟩ := submitRequest_accepted hr
  obtain ⟨k, a, c, hslot, hk, hc, ha, rfl⟩ := checkSubmit_fills hcheck
  obtain ⟨hfree, hlowest⟩ := freeSlot_lowest hslot
  refine ⟨i, s.staging.order k a c s.serial, hfree, hlowest, (eq_code_of_kindOf hk).symm, fun hf => if_pos hf,
    fun hf => ?_, rfl, val_of_classOf hc, rfl, rfl, rfl, rfl, rfl, rfl, ?_⟩
  · have hact : (s.staging.order k a c s.serial).actuator = a := if_neg hf
    rw [hact, (actOf_eq_some_iff _ _).1 (ha hf)]
  · refine (writeRow_keeping hw (standsAs_submitRequest s).1).trans ?_
    rw [hsubmit]
    rfl

/-! ### APPLY (R7 to R12) -/

theorem busyEntry_iff (s : State) (a : ActNo) : s.busyEntry a = true ↔ ∃ i, (s.slot i).ordersFor a = true := by
  simp [State.busyEntry]

theorem badArg_iff (c : ActConfig) : c.badArg = true ↔ c.refused := by
  simp only [ActConfig.badArg, ActConfig.refused, Bool.or_eq_true, Bool.and_eq_true, beq_iff_eq, bne_iff_ne,
    decide_eq_true_eq, enabled_iff, or_assoc]

theorem samePair_iff (c d : ActConfig) :
    samePair c d = true ↔
      (c.posLeg = d.posLeg ∧ c.negLeg = d.negLeg) ∨ (c.posLeg = d.negLeg ∧ c.negLeg = d.posLeg) := by
  simp only [samePair, Bool.or_eq_true, Bool.and_eq_true, beq_iff_eq]

theorem pairUsed_iff (s : State) (a : ActNo) (c : ActConfig) : s.pairUsed a c = true ↔ s.pairTaken a c := by
  simp only [State.pairUsed, State.pairTaken, Bool.and_eq_true, List.any_eq_true, List.mem_finRange, true_and,
    bne_iff_ne, enabled_iff, samePair_iff, and_assoc]

theorem conflict_iff (s : State) (c : ActConfig) : s.conflict c = true ↔ c.enable = 1 ∧ s.wouldDrive c := by
  have hdriven (k : LegNo) : (s.leg k).driven = true ↔ ∃ i, (⟨i, .drive⟩ : Claim) ∈ (s.leg k).claims := by
    rw [driven_iff]
    exact ⟨fun ⟨⟨i, _⟩, hc, ht⟩ => ⟨i, ht ▸ hc⟩, fun ⟨i, hc⟩ => ⟨_, hc, rfl⟩⟩
  simp only [State.conflict, Bool.and_eq_true, enabled_iff, drivenAcross_iff, State.wouldDrive, hdriven, claimed_iff]

theorem rewired_eq_false_iff (c d : ActConfig) :
    rewired c d = false ↔ c.posLeg = d.posLeg ∧ c.negLeg = d.negLeg ∧ c.enable = d.enable := by
  simp [rewired, and_assoc]

theorem applyPage_same {e : Actuator} {c : ActConfig}
    (h : e.config.posLeg = c.posLeg ∧ e.config.negLeg = c.negLeg ∧ e.config.enable = c.enable) :
    e.applyPage c = { e with config := c } := by
  rw [Actuator.applyPage, (rewired_eq_false_iff _ _).2 h]
  rfl

theorem applyPage_rewired {e : Actuator} {c : ActConfig}
    (h : ¬ (e.config.posLeg = c.posLeg ∧ e.config.negLeg = c.negLeg ∧ e.config.enable = c.enable)) :
    e.applyPage c = { e with config := c, valid := false, stray := 0 } := by
  rw [← rewired_eq_false_iff, Bool.not_eq_false] at h
  exact if_pos h

theorem applyRequest_refused {s : State} {r : ApplyResult} (h : s.checkApply = r) (hr : r ≠ .ok) :
    s.applyRequest = { s with applyResult := r } := by
  subst h
  exact if_neg hr

theorem applyRequest_accepted {s : State} (h : s.checkApply = .ok) :
    s.applyRequest =
      (({ s with applyResult := .ok } : State).setAct s.actSel ((s.act s.actSel).applyPage s.page)).dispatch := by
  rw [State.applyRequest, h]
  rfl

theorem not_busyEntry {s : State} {a : ActNo} (h : ∀ i, (s.slot i).ordersFor a = false) :
    ¬ s.busyEntry a = true := by
  rw [busyEntry_iff]
  rintro ⟨i, hi⟩
  exact Bool.false_ne_true ((h i).symm.trans hi)

/-- The checks of R7 in their order, each by its condition (R8 to R11). -/
theorem checkApply_refused {s : State} {r : ApplyResult}
    (h : ((∃ i, (s.slot i).ordersFor s.actSel = true) ∧ r = .busy) ∨
      ((∀ i, (s.slot i).ordersFor s.actSel = false) ∧ s.page.refused ∧ r = .badArg) ∨
      ((∀ i, (s.slot i).ordersFor s.actSel = false) ∧ ¬ s.page.refused ∧ s.pairTaken s.actSel s.page ∧
        r = .pairUsed) ∨
      ((∀ i, (s.slot i).ordersFor s.actSel = false) ∧ ¬ s.page.refused ∧ ¬ s.pairTaken s.actSel s.page ∧
        s.page.enable = 1 ∧ s.wouldDrive s.page ∧ r = .conflict)) :
    s.checkApply = r ∧ r ≠ .ok := by
  rw [← busyEntry_iff, ← badArg_iff, ← pairUsed_iff] at h
  unfold State.checkApply
  obtain ⟨hb, rfl⟩ | ⟨hb, ha, rfl⟩ | ⟨hb, ha, hp, rfl⟩ | ⟨hb, ha, hp, he, hd, rfl⟩ := h
  · exact ⟨if_pos hb, nofun⟩
  · rw [if_neg (not_busyEntry hb), if_pos ha]
    exact ⟨rfl, nofun⟩
  · rw [if_neg (not_busyEntry hb), if_neg ha, if_pos hp]
    exact ⟨rfl, nofun⟩
  · rw [if_neg (not_busyEntry hb), if_neg ha, if_neg hp, if_pos ((conflict_iff _ _).2 ⟨he, hd⟩)]
    exact ⟨rfl, nofun⟩

theorem checkApply_accepted {s : State} (hb : ∀ i, (s.slot i).ordersFor s.actSel = false) (ha : ¬ s.page.refused)
    (hp : ¬ s.pairTaken s.actSel s.page) (hd : ¬ (s.page.enable = 1 ∧ s.wouldDrive s.page)) : s.checkApply = .ok := by
  rw [← badArg_iff] at ha
  rw [← pairUsed_iff] at hp
  rw [← conflict_iff] at hd
  rw [State.checkApply, if_neg (not_busyEntry hb), if_neg ha, if_neg hp, if_neg hd]

/-- Settles O25. -/
theorem applyRefusedChangesNothing : Obligations.ApplyRefusedChangesNothing := by
  intro v r s hw h
  obtain ⟨hcheck, hr⟩ := checkApply_refused h
  refine (writeRow_keeping hw (standsAs_applyRequest s).1).trans ?_
  rw [applyRequest_refused hcheck hr]
  rfl

/-- Settles O26. -/
theorem applyAcceptedCopiesThePage : Obligations.ApplyAcceptedCopiesThePage := by
  intro v s hw hb ha hp hd
  refine ⟨(s.act s.actSel).applyPage s.page, applyPage_same, applyPage_rewired, ?_⟩
  refine (writeRow_keeping hw (standsAs_applyRequest s).1).trans ?_
  rw [applyRequest_accepted (checkApply_accepted hb ha hp hd)]
  rfl

end Sys2Proof.Machine
end

section
/-! PROOF. A byte written (R168, R170): at an address with a row of its own that row's effect, at a stored field the field, elsewhere nothing. -/

namespace Sys2Proof.Machine

/-- A data byte of a write transfer leaves the pointer at the next address (R168). -/
theorem exec_registerWrite {a : Addr} {s : State} (v : Byte) (h : s.Writing a) :
    exec (.registerWrite v) s = .next ((s.takeWrite a v).written a) :=
  (dataByte_write v s a h).trans (congrArg _ (advance_write s _ a h (port_takeWrite a v s)))

/-! ### Addresses with a row of their own (R168, R176) -/

theorem mem_commandCodes_iff (code : Byte) :
    code ∈ commandCodes ↔ code.toNat ∈ [0x01, 0x02, 0x03, 0x10, 0x11, 0x12, 0x13, 0x20, 0x21, 0x30, 0x3F] := by
  revert code
  decide

theorem command_unknown {code : Byte} (s : State) (h : code ∉ commandCodes) : s.command code = s.cmdUnknown := by
  rw [mem_commandCodes_iff] at h
  unfold State.command
  split
  case h_12 => rfl
  all_goals
    next hc =>
    rw [hc] at h
    exact absurd (by decide) h

theorem commandRow_unknown {code : Byte} (h : code ∉ commandCodes) : commandRow code = .unknownCommand code := by
  simp only [commandCodes, List.mem_cons, List.not_mem_nil, or_false, not_or] at h
  obtain ⟨h1, h2, h3, h4, h5, h6, h7, h8, h9, h10, h11⟩ := h
  simp only [commandRow, h1, h2, h3, h4, h5, h6, h7, h8, h9, h10, h11, if_false]

theorem exec_commandRow (v : Byte) (s : State) : exec (commandRow v) s = writeRow 0x07 (State.command v) s := by
  by_cases h : v ∈ commandCodes
  · simp only [commandCodes, List.mem_cons, List.not_mem_nil, or_false] at h
    obtain rfl | rfl | rfl | rfl | rfl | rfl | rfl | rfl | rfl | rfl | rfl := h
    all_goals rfl
  · have hcode : commandCodes.contains v = false := by simpa using h
    have hunknown : State.cmdUnknown s = State.command v s := (command_unknown s h).symm
    rw [commandRow_unknown h]
    refine (if_neg (by rw [hcode]; exact Bool.false_ne_true)).trans ?_
    rw [writeRow, writeRow, hunknown]

/-- Settles O13. -/
theorem registerWriteActsAsItsRow : Obligations.RegisterWriteActsAsItsRow := by
  intro v s
  refine ⟨?_, ?_, fun hw => ?_, fun hw => ?_, fun hw => ?_, fun hw => ?_, fun hw => ?_, fun hw => ?_⟩
  · rintro (hw | hw)
    · exact (exec_registerWrite v hw).trans (exec_flagsWrite_low v s hw).symm
    · exact (exec_registerWrite v hw).trans (exec_flagsWrite_high v s hw).symm
  · rintro (hw | hw)
    · exact (exec_registerWrite v hw).trans (exec_maskWrite_low v s hw).symm
    · exact (exec_registerWrite v hw).trans (exec_maskWrite_high v s hw).symm
  · rw [exec_commandRow]
    exact (exec_registerWrite v hw).trans (writeRow_keeping hw (port_command v s)).symm
  · exact (exec_registerWrite v hw).trans (writeRow_keeping hw (standsAs_writePassLimit v s).1).symm
  · exact (exec_registerWrite v hw).trans (writeRow_keeping hw (standsAs_writeWarmCap v s).1).symm
  · exact (exec_registerWrite v hw).trans (writeRow_keeping hw (standsAs_submitRequest s).1).symm
  · exact (exec_registerWrite v hw).trans (writeRow_keeping hw (standsAs_writeActSel v s).1).symm
  · exact (exec_registerWrite v hw).trans (writeRow_keeping hw (standsAs_applyRequest s).1).symm

/-! ### Addresses without a row of their own -/

/-- The addresses whose bytes have a row of their own (R168). -/
def rowAddrs : List Nat := [0x02, 0x03, 0x04, 0x05, 0x07, 0x1D, 0x1E, 0x28, 0x40, 0x4F]

theorem not_mem_rowAddrs {a : Nat}
    (h : a ≠ 0x02 ∧ a ≠ 0x03 ∧ a ≠ 0x04 ∧ a ≠ 0x05 ∧ a ≠ 0x07 ∧ a ≠ 0x1D ∧ a ≠ 0x1E ∧ a ≠ 0x28 ∧ a ≠ 0x40 ∧ a ≠ 0x4F) :
    a ∉ rowAddrs := by
  simpa [rowAddrs] using h

theorem takeWrite_store {a : Addr} (v : Byte) (s : State) (h : a.toNat ∉ rowAddrs) : s.takeWrite a v = s.store a v := by
  unfold State.takeWrite
  split
  case h_11 => rfl
  all_goals
    next ha =>
    rw [ha] at h
    exact absurd (by decide) h

/-- The addresses of the stored fields (R168). -/
def storeAddr (a : Nat) : Prop :=
  (0x08 ≤ a ∧ a ≤ 0x0A) ∨ (0x18 ≤ a ∧ a ≤ 0x1F) ∨ (0x20 ≤ a ∧ a ≤ 0x27) ∨ a = 0x3A ∨ (0x41 ≤ a ∧ a ≤ 0x4E) ∨
    (0x58 ≤ a ∧ a ≤ 0x67)

theorem store_elsewhere {a : Addr} (v : Byte) (s : State) (h : ¬ storeAddr a.toNat) : s.store a v = s := by
  unfold storeAddr at h
  unfold State.store
  dsimp only
  rw [if_neg (by omega), if_neg (by omega), if_neg (by omega), if_neg (by omega), if_neg (by omega),
    if_neg (by omega), if_neg (by omega), if_neg (by omega)]

theorem discards_of {a : Addr} (h : (readOnly a || unassigned a) = true) :
    a.toNat ∉ rowAddrs ∧ ¬ storeAddr a.toNat := by
  have hall : ∀ a : Addr, (readOnly a || unassigned a) = true → a.toNat ∉ rowAddrs ∧
      ¬ ((0x08 ≤ a.toNat ∧ a.toNat ≤ 0x0A) ∨ (0x18 ≤ a.toNat ∧ a.toNat ≤ 0x1F) ∨
        (0x20 ≤ a.toNat ∧ a.toNat ≤ 0x27) ∨ a.toNat = 0x3A ∨ (0x41 ≤ a.toNat ∧ a.toNat ≤ 0x4E) ∨
        (0x58 ≤ a.toNat ∧ a.toNat ≤ 0x67)) := by decide
  exact hall a h

theorem unassigned_toNat {a : Addr} (h : unassigned a = true) :
    a.toNat = 0x0F ∨ a.toNat = 0x17 ∨ (0x2B ≤ a.toNat ∧ a.toNat ≤ 0x2F) ∨ (0x54 ≤ a.toNat ∧ a.toNat ≤ 0x57) ∨
      0x68 ≤ a.toNat := by
  revert a
  decide

theorem not_inWindow {a : Nat} (h : a < 0x30 ∨ 0x39 < a) : inWindow a = false := by
  simp only [inWindow, Bool.and_eq_false_iff, decide_eq_false_iff_not]
  omega

theorem peek_unassigned {a : Addr} (s : State) (h : unassigned a = true) : s.peek a = 0 := by
  have ha := unassigned_toNat h
  have hw : ¬ inWindow a.toNat = true := by rw [not_inWindow (by omega)]; exact Bool.false_ne_true
  unfold State.peek
  dsimp only
  rw [if_neg (by omega), if_neg (by omega), if_neg (by omega), if_neg (by omega), if_neg (by omega),
    if_neg (by omega), if_neg (by omega), if_neg hw, if_neg (by omega), if_neg (by omega), if_neg (by omega),
    if_neg (by omega), if_neg (by omega), if_neg (by omega), if_neg (by omega)]

/-- Settles O12. -/
theorem discardedWritesChangeNothing : Obligations.DiscardedWritesChangeNothing := by
  refine ⟨fun a v s hw h => ?_, fun a s => peek_unassigned s, fun s => ⟨rfl, rfl, rfl, rfl, rfl⟩⟩
  obtain ⟨hrow, hstore⟩ := discards_of h
  rw [exec_registerWrite v hw, takeWrite_store v s hrow, store_elsewhere v s hstore]

/-! ### Bytes stored as written (R6, R53, R61, R176) -/

theorem nibbles_split (v : Byte) : nibbles ((v >>> 4).setWidth 4) (v.setWidth 4) = v := by
  revert v
  decide

/-- The two bytes of a 16-bit field after one of them is written. -/
theorem bytes_written (v : Half) (b : Byte) :
    (lowByte (withLow v b) = b ∧ highByte (withLow v b) = highByte v) ∧
      lowByte (withHigh v b) = lowByte v ∧ highByte (withHigh v b) = b :=
  ⟨⟨lowByte_withLow v b, highByte_withLow v b⟩, lowByte_withHigh v b, highByte_withHigh v b⟩

/-- A byte written to staging is read back, and every other byte of staging stays (R53). -/
theorem byteAt_store_staging (g : Staging) {a : Nat} (b : Nat) (v : Byte) (h : 0x20 ≤ a ∧ a ≤ 0x27) :
    (g.store a v).byteAt b = if b = a then v else g.byteAt b := by
  unfold Staging.store
  split
  case h_9 =>
    simp only [imp_false] at *
    omega
  all_goals
    unfold Staging.byteAt
    split <;> simp_all [bytes_written]

/-- A byte written to the page is read back, and every other byte of the page stays (R6). -/
theorem byteAt_store_page (c : ActConfig) {a : Nat} (b : Nat) (v : Byte) (h : 0x41 ≤ a ∧ a ≤ 0x4E) :
    (c.store a v).byteAt b = if b = a then v else c.byteAt b := by
  unfold ActConfig.store
  split
  case h_15 =>
    simp only [imp_false] at *
    omega
  all_goals
    unfold ActConfig.byteAt
    split <;> simp_all [bytes_written, nibbles_split]

/-- A byte of COMMAND_ARG or COMMAND_VALUE by its address (R176). -/
def State.operandAt (s : State) (b : Nat) : Byte :=
  match b with
  | 0x08 => s.cmdArg
  | 0x09 => lowByte s.cmdValue
  | 0x0A => highByte s.cmdValue
  | _ => 0

/-- The byte of a stored field by its address: COMMAND_ARG and COMMAND_VALUE, staging, the page. -/
def State.storedAt (s : State) (b : Nat) : Byte :=
  if b ≤ 0x0A then s.operandAt b else if b ≤ 0x27 then s.staging.byteAt b else s.page.byteAt b

theorem storedAsWritten_toNat {a : Addr} (h : storedAsWritten a = true) :
    (0x08 ≤ a.toNat ∧ a.toNat ≤ 0x0A) ∨ (0x20 ≤ a.toNat ∧ a.toNat ≤ 0x27) ∨ (0x41 ≤ a.toNat ∧ a.toNat ≤ 0x4E) := by
  revert a
  decide

theorem operand_cases {a : Addr} (h : 0x08 ≤ a.toNat ∧ a.toNat ≤ 0x0A) : a = 0x08 ∨ a = 0x09 ∨ a = 0x0A := by
  revert a
  decide

theorem peek_operand {b : Addr} (s : State) (h : 0x08 ≤ b.toNat ∧ b.toNat ≤ 0x0A) :
    s.peek b = s.operandAt b.toNat := by
  obtain rfl | rfl | rfl := operand_cases h
  all_goals rfl

theorem peek_stored {b : Addr} (s : State) (h : storedAsWritten b = true) : s.peek b = s.storedAt b.toNat := by
  have hb := storedAsWritten_toNat h
  have hw : ¬ inWindow b.toNat = true := by rw [not_inWindow (by omega)]; exact Bool.false_ne_true
  obtain hb | hb | hb := hb
  · rw [peek_operand s hb, State.storedAt, if_pos (by omega)]
  · unfold State.peek State.storedAt
    dsimp only
    rw [if_neg (by omega), if_neg (by omega), if_neg (by omega), if_neg (by omega), if_pos (by omega),
      if_neg (by omega), if_pos (by omega)]
  · unfold State.peek State.storedAt
    dsimp only
    rw [if_neg (by omega), if_neg (by omega), if_neg (by omega), if_neg (by omega), if_neg (by omega),
      if_neg (by omega), if_neg (by omega), if_neg hw, if_neg (by omega), if_neg (by omega), if_neg (by omega),
      if_pos (by omega), if_neg (by omega), if_neg (by omega)]

theorem store_staging {a : Addr} (v : Byte) (s : State) (h : 0x20 ≤ a.toNat ∧ a.toNat ≤ 0x27) :
    s.store a v = { s with staging := s.staging.store a.toNat v } := by
  unfold State.store
  dsimp only
  rw [if_neg (by omega), if_neg (by omega), if_neg (by omega), if_neg (by omega), if_pos h]

theorem store_page {a : Addr} (v : Byte) (s : State) (h : 0x41 ≤ a.toNat ∧ a.toNat ≤ 0x4E) :
    s.store a v = { s with page := s.page.store a.toNat v } := by
  unfold State.store
  dsimp only
  rw [if_neg (by omega), if_neg (by omega), if_neg (by omega), if_neg (by omega), if_neg (by omega),
    if_neg (by omega), if_pos h]

/-- A byte written to COMMAND_ARG or COMMAND_VALUE is read back, and the other bytes of the three stay (R176). -/
theorem operandAt_store {a : Addr} (b : Nat) (v : Byte) (s : State) (h : 0x08 ≤ a.toNat ∧ a.toNat ≤ 0x0A) :
    (s.store a v).operandAt b = if b = a.toNat then v else s.operandAt b := by
  have h8 : s.store 0x08 v = { s with cmdArg := v } := rfl
  have h9 : s.store 0x09 v = { s with cmdValue := withLow s.cmdValue v } := rfl
  have hA : s.store 0x0A v = { s with cmdValue := withHigh s.cmdValue v } := rfl
  obtain rfl | rfl | rfl := operand_cases h
  all_goals
    unfold State.operandAt
    split <;> simp_all [bytes_written]

/-- A byte written elsewhere leaves COMMAND_ARG and COMMAND_VALUE, and so for staging and the page. -/
theorem store_operand_frame {a : Addr} (v : Byte) (s : State) (h : 0x08 ≤ a.toNat ∧ a.toNat ≤ 0x0A) :
    s.store a v = { s with cmdArg := (s.store a v).cmdArg, cmdValue := (s.store a v).cmdValue } := by
  obtain rfl | rfl | rfl := operand_cases h
  all_goals rfl

/-- A stored byte is read back, and every other stored byte stays (R6, R53, R176). -/
theorem storedAt_store {a b : Addr} (v : Byte) (s : State) (ha : storedAsWritten a = true)
    (hb : storedAsWritten b = true) :
    (s.store a v).storedAt b.toNat = if b.toNat = a.toNat then v else s.storedAt b.toNat := by
  have hb := storedAsWritten_toNat hb
  unfold State.storedAt
  obtain ha | ha | ha := storedAsWritten_toNat ha
  · split
    · exact operandAt_store _ v s ha
    · rw [if_neg (show ¬ b.toNat = a.toNat by omega), store_operand_frame v s ha]
  · rw [store_staging v s ha]
    split
    · rw [if_neg (by omega)]
      rfl
    · split
      · exact byteAt_store_staging s.staging _ v ha
      · rw [if_neg (by omega)]
  · rw [store_page v s ha]
    split
    · rw [if_neg (by omega)]
      rfl
    · split
      · rw [if_neg (by omega)]
      · exact byteAt_store_page s.page _ v ha

theorem frame_store_stored {a : Addr} (v : Byte) (s : State) (h : storedAsWritten a = true) :
    s.store a v = { s with
      cmdArg := (s.store a v).cmdArg, cmdValue := (s.store a v).cmdValue, staging := (s.store a v).staging
      page := (s.store a v).page } := by
  have ha := storedAsWritten_toNat h
  obtain ha | ha | ha := ha
  · obtain rfl | rfl | rfl := operand_cases ha
    all_goals rfl
  · rw [store_staging v s ha]
  · rw [store_page v s ha]

theorem store_slotSel (v : Byte) (s : State) :
    s.store 0x3A v = match slotOf v with | some i => { s with slotSel := i } | none => s := rfl

/-- Settles O10. -/
theorem storedByteReadsBack : Obligations.StoredByteReadsBack := by
  refine ⟨fun a v s hw h => ?_, fun v s hw => ?_⟩
  · have hrow : a.toNat ∉ rowAddrs := by
      have ha := storedAsWritten_toNat h
      exact not_mem_rowAddrs (by omega)
    have hexec : exec (.registerWrite v) s = .next ((s.store a v).written a) := by
      rw [exec_registerWrite v hw, takeWrite_store v s hrow]
    have hpeek (b : Addr) (hb : storedAsWritten b = true) :
        ((s.store a v).written a).peek b = if b.toNat = a.toNat then v else s.peek b := by
      rw [peek_stored _ hb, peek_stored s hb]
      exact storedAt_store v s h hb
    refine ⟨_, hexec, ?_, fun b hb hne => ?_, ?_⟩
    · rw [hpeek a h, if_pos rfl]
    · rw [hpeek b hb, if_neg fun he => hne (BitVec.eq_of_toNat_eq he)]
    · exact congrArg (State.written · a) (frame_store_stored v s h)
  · have hexec : exec (.registerWrite v) s = .next ((s.store 0x3A v).written 0x3A) := exec_registerWrite v hw
    refine ⟨fun i hi => ?_, fun h => ?_⟩
    · rw [hexec, store_slotSel, slotOf_of_toNat_eq hi]
      rfl
    · rw [hexec, store_slotSel, slotOf_of_le h]

/-! ### Settings and speed classes (R177, R178) -/

/-- A global setting byte, stored clamped into its range: the fields with a row of their own among them (R177). -/
def Settings.put (g : Settings) (a : Nat) (v : Byte) : Settings :=
  match a with
  | 0x1D => { g with passLimit := clamp 0 15 v }
  | 0x1E => { g with warmCap := clamp 8 64 v }
  | _ => g.store a v

/-- The range of a global setting (R177). -/
def settingRange (a : Nat) : Byte × Byte :=
  match a with
  | 0x18 => (1, 16)
  | 0x1C => (0, 255)
  | 0x1D => (0, 15)
  | 0x1E => (8, 64)
  | _ => (1, 255)

/-- The range of a byte of a speed class (R178). -/
def classRange (n : Nat) : Byte × Byte := if n = 2 then (1, 64) else (8, 64)

theorem clamp_all (v : Byte) : clamp 0#8 255#8 v = v := by
  revert v
  decide

theorem byteAt_put (g : Settings) {a : Nat} (b : Nat) (v : Byte) (h : 0x18 ≤ a ∧ a ≤ 0x1E) :
    (g.put a v).byteAt b = if b = a then clamp (settingRange a).1 (settingRange a).2 v else g.byteAt b := by
  obtain ⟨hlo, hhi⟩ := h
  interval_cases a
  all_goals
    simp only [Settings.put, Settings.store, settingRange]
    unfold Settings.byteAt
    split <;> simp_all [clamp_all]

theorem autoResume_put (g : Settings) {a : Nat} (v : Byte) (h : 0x18 ≤ a ∧ a ≤ 0x1E) :
    (g.put a v).autoResume = g.autoResume := by
  obtain ⟨hlo, hhi⟩ := h
  interval_cases a
  all_goals rfl

theorem byteAt_store_class (c : SpeedClass) {n : Nat} (k : Nat) (v : Byte) (h : n < 4) :
    (c.store n v).byteAt k = if k = n then clamp (classRange n).1 (classRange n).2 v else c.byteAt k := by
  interval_cases n
  all_goals
    simp only [SpeedClass.store, classRange]
    unfold SpeedClass.byteAt
    split <;> simp_all

/-- The addresses of the settings and of the speed classes, with their ranges. -/
theorem storedRange_eq_some {a : Addr} {lo hi : Byte} (h : storedRange a = some (lo, hi)) :
    ((0x18 ≤ a.toNat ∧ a.toNat ≤ 0x1E) ∧ (lo, hi) = settingRange a.toNat) ∨
      ((0x58 ≤ a.toNat ∧ a.toNat ≤ 0x67) ∧ (lo, hi) = classRange ((a.toNat - 0x58) % 4)) := by
  have hall : ∀ a : Addr, (storedRange a).all (fun p => decide
      (((0x18 ≤ a.toNat ∧ a.toNat ≤ 0x1E) ∧ p = settingRange a.toNat) ∨
        ((0x58 ≤ a.toNat ∧ a.toNat ≤ 0x67) ∧ p = classRange ((a.toNat - 0x58) % 4)))) = true := by decide
  have ha := hall a
  rw [h] at ha
  exact of_decide_eq_true ha

/-- A byte of the settings or of a speed class by its address. -/
def State.settingAt (s : State) (b : Nat) : Byte :=
  if b ≤ 0x1F then s.settings.byteAt b else s.speeds[classAt b].byteAt ((b - 0x58) % 4)

theorem peek_setting {b : Addr} (s : State)
    (h : (0x18 ≤ b.toNat ∧ b.toNat ≤ 0x1F) ∨ (0x58 ≤ b.toNat ∧ b.toNat ≤ 0x67)) :
    s.peek b = s.settingAt b.toNat := by
  have hw : ¬ inWindow b.toNat = true := by rw [not_inWindow (by omega)]; exact Bool.false_ne_true
  unfold State.peek State.settingAt
  dsimp only
  obtain h | h := h
  · rw [if_neg (by omega), if_neg (by omega), if_neg (by omega), if_pos h, if_pos h.2]
  · rw [if_neg (by omega), if_neg (by omega), if_neg (by omega), if_neg (by omega), if_neg (by omega),
      if_neg (by omega), if_neg (by omega), if_neg hw, if_neg (by omega), if_neg (by omega), if_neg (by omega),
      if_neg (by omega), if_neg (by omega), if_neg (by omega), if_pos h, if_neg (by omega)]

theorem store_setting {a : Addr} (v : Byte) (s : State) (h : 0x18 ≤ a.toNat ∧ a.toNat ≤ 0x1F) :
    s.store a v = { s with settings := s.settings.store a.toNat v } := by
  unfold State.store
  dsimp only
  rw [if_neg (by omega), if_neg (by omega), if_neg (by omega), if_pos h]

theorem store_class {a : Addr} (v : Byte) (s : State) (h : 0x58 ≤ a.toNat ∧ a.toNat ≤ 0x67) :
    s.store a v = { s with
      speeds := s.speeds.set (classAt a.toNat) (s.speeds[classAt a.toNat].store ((a.toNat - 0x58) % 4) v) } := by
  unfold State.store
  dsimp only
  rw [if_neg (by omega), if_neg (by omega), if_neg (by omega), if_neg (by omega), if_neg (by omega),
    if_neg (by omega), if_neg (by omega), if_pos h]

theorem settings_writePassLimit (v : Byte) (s : State) :
    (s.writePassLimit v).settings = s.settings.put 0x1D v ∧ (s.writePassLimit v).speeds = s.speeds := by
  rw [State.writePassLimit, setFlagIf_eq]
  exact ⟨rfl, rfl⟩

theorem settings_writeWarmCap (v : Byte) (s : State) :
    (s.writeWarmCap v).settings = s.settings.put 0x1E v ∧ (s.writeWarmCap v).speeds = s.speeds := by
  unfold State.writeWarmCap
  dsimp only
  split
  · exact ⟨(sameOutside_recapSettle _).settings_eq, (sameOutside_recapSettle _).speeds_eq⟩
  · exact ⟨rfl, rfl⟩

/-- A write to a global setting stores it clamped, whatever else the row does (R177). -/
theorem takeWrite_setting {a : Addr} (v : Byte) (s : State) (h : 0x18 ≤ a.toNat ∧ a.toNat ≤ 0x1E) :
    (s.takeWrite a v).settings = s.settings.put a.toNat v ∧ (s.takeWrite a v).speeds = s.speeds := by
  by_cases hD : a.toNat = 0x1D
  · obtain rfl : a = 0x1D := BitVec.eq_of_toNat_eq hD
    exact settings_writePassLimit v s
  by_cases hE : a.toNat = 0x1E
  · obtain rfl : a = 0x1E := BitVec.eq_of_toNat_eq hE
    exact settings_writeWarmCap v s
  have hrow : a.toNat ∉ rowAddrs := not_mem_rowAddrs (by omega)
  have hput : s.settings.put a.toNat v = s.settings.store a.toNat v := by
    unfold Settings.put
    split
    · next h => exact absurd h hD
    · next h => exact absurd h hE
    · rfl
  rw [takeWrite_store v s hrow, store_setting v s (by omega), hput]
  exact ⟨rfl, rfl⟩

/-- The range of a byte of the settings or of a speed class by its address. -/
def rangeAt (a : Nat) : Byte × Byte := if a ≤ 0x1F then settingRange a else classRange ((a - 0x58) % 4)

theorem classAt_eq_iff {a b : Nat} (ha : 0x58 ≤ a ∧ a ≤ 0x67) (hb : 0x58 ≤ b ∧ b ≤ 0x67) :
    classAt a = classAt b ↔ (a - 0x58) / 4 = (b - 0x58) / 4 := by
  simp only [classAt, Fin.ext_iff, Fin.val_ofNat]
  omega

/-- A byte of the settings or of a speed class is read back clamped, and the others stay (R177, R178). -/
theorem settingAt_takeWrite {a b : Addr} (v : Byte) (s : State)
    (ha : (0x18 ≤ a.toNat ∧ a.toNat ≤ 0x1E) ∨ (0x58 ≤ a.toNat ∧ a.toNat ≤ 0x67))
    (hb : (0x18 ≤ b.toNat ∧ b.toNat ≤ 0x1E) ∨ (0x58 ≤ b.toNat ∧ b.toNat ≤ 0x67)) :
    (s.takeWrite a v).settingAt b.toNat =
      if b.toNat = a.toNat then clamp (rangeAt a.toNat).1 (rangeAt a.toNat).2 v else s.settingAt b.toNat := by
  unfold State.settingAt rangeAt
  obtain ha | ha := ha
  · obtain ⟨hsettings, hspeeds⟩ := takeWrite_setting v s ha
    rw [hsettings, hspeeds, if_pos (show a.toNat ≤ 0x1F by omega)]
    split
    · exact byteAt_put s.settings _ v ha
    · rw [if_neg (show ¬ b.toNat = a.toNat by omega)]
  · have hrow : a.toNat ∉ rowAddrs := not_mem_rowAddrs (by omega)
    rw [takeWrite_store v s hrow, store_class v s ha, if_neg (show ¬ a.toNat ≤ 0x1F by omega)]
    split
    · rw [if_neg (show ¬ b.toNat = a.toNat by omega)]
    · have hb : 0x58 ≤ b.toNat ∧ b.toNat ≤ 0x67 := by omega
      have hget : (s.speeds.set (classAt a.toNat)
          (s.speeds[classAt a.toNat].store ((a.toNat - 0x58) % 4) v))[classAt b.toNat] =
          if classAt a.toNat = classAt b.toNat then s.speeds[classAt a.toNat].store ((a.toNat - 0x58) % 4) v
          else s.speeds[classAt b.toNat] := by
        simp only [Fin.getElem_fin, Vector.getElem_set, Fin.ext_iff]
      rw [hget]
      by_cases hclass : classAt a.toNat = classAt b.toNat
      · have hsame : s.speeds[classAt b.toNat] = s.speeds[classAt a.toNat] := by simp only [hclass]
        rw [if_pos hclass, hsame, byteAt_store_class _ _ _ (by omega)]
        have hdiv := (classAt_eq_iff ha hb).1 hclass
        by_cases hba : b.toNat = a.toNat
        · rw [hba, if_pos rfl, if_pos rfl]
        · rw [if_neg hba, if_neg (by omega)]
      · rw [if_neg hclass, if_neg fun hba => hclass (congrArg classAt hba.symm)]

theorem autoResume_takeWrite {a : Addr} (v : Byte) (s : State)
    (ha : (0x18 ≤ a.toNat ∧ a.toNat ≤ 0x1E) ∨ (0x58 ≤ a.toNat ∧ a.toNat ≤ 0x67)) :
    (s.takeWrite a v).settings.autoResume = s.settings.autoResume := by
  obtain ha | ha := ha
  · rw [(takeWrite_setting v s ha).1, autoResume_put _ v ha]
  · have hrow : a.toNat ∉ rowAddrs := not_mem_rowAddrs (by omega)
    rw [takeWrite_store v s hrow, store_class v s ha]

/-- But at the pass limit and the WARM cap, nothing else of the part changes. -/
theorem frame_takeWrite_setting {a : Addr} (v : Byte) (s : State)
    (ha : (0x18 ≤ a.toNat ∧ a.toNat ≤ 0x1E) ∨ (0x58 ≤ a.toNat ∧ a.toNat ≤ 0x67)) (hD : a ≠ 0x1D) (hE : a ≠ 0x1E) :
    s.takeWrite a v =
      { s with settings := (s.takeWrite a v).settings, speeds := (s.takeWrite a v).speeds } := by
  have hD : a.toNat ≠ 0x1D := fun h => hD (BitVec.eq_of_toNat_eq h)
  have hE : a.toNat ≠ 0x1E := fun h => hE (BitVec.eq_of_toNat_eq h)
  have hrow : a.toNat ∉ rowAddrs := not_mem_rowAddrs (by omega)
  rw [takeWrite_store v s hrow]
  obtain ha | ha := ha
  · rw [store_setting v s (by omega)]
  · rw [store_class v s ha]

theorem bitAt_lowest (v : Byte) : bitAt (v.getLsbD 0) 0 = v &&& 1 := by
  revert v
  decide

/-- Settles O11. -/
theorem settingsAreStoredClamped : Obligations.SettingsAreStoredClamped := by
  have haddr {b : Addr} {lo hi : Byte} (h : storedRange b = some (lo, hi)) :
      ((0x18 ≤ b.toNat ∧ b.toNat ≤ 0x1E) ∨ (0x58 ≤ b.toNat ∧ b.toNat ≤ 0x67)) ∧ (lo, hi) = rangeAt b.toNat := by
    unfold rangeAt
    obtain ⟨hb, hr⟩ | ⟨hb, hr⟩ := storedRange_eq_some h
    · exact ⟨.inl hb, by rw [hr, if_pos (by omega)]⟩
    · exact ⟨.inr hb, by rw [hr, if_neg (by omega)]⟩
  refine ⟨fun a v lo hi s hw h => ?_, fun v s hw => ⟨_, exec_registerWrite v hw, ?_, rfl⟩⟩
  · obtain ⟨ha, hr⟩ := haddr h
    obtain ⟨hlo, hhi⟩ := Prod.mk.inj hr
    have hpeek {b : Addr} (hb : (0x18 ≤ b.toNat ∧ b.toNat ≤ 0x1E) ∨ (0x58 ≤ b.toNat ∧ b.toNat ≤ 0x67)) :
        ((s.takeWrite a v).written a).peek b = if b.toNat = a.toNat then clamp lo hi v else s.peek b := by
      rw [peek_setting _ (by omega), peek_setting s (by omega), hlo, hhi]
      exact settingAt_takeWrite v s ha hb
    refine ⟨_, exec_registerWrite v hw, ?_, fun b hb hne => ?_, ?_, fun hD hE => ?_⟩
    · rw [hpeek ha, if_pos rfl]
      rfl
    · obtain ⟨⟨l, u⟩, hr⟩ := Option.isSome_iff_exists.1 hb
      rw [hpeek (haddr hr).1, if_neg fun he => hne (BitVec.eq_of_toNat_eq he)]
    · exact autoResume_takeWrite v s ha
    · exact congrArg (State.written · a) (frame_takeWrite_setting v s ha hD hE)
  · exact bitAt_lowest v

end Sys2Proof.Machine
end

section
/-! PROOF. A byte read (R169): the plain read, the window with its empty view and shadows (R152, R172), the removal at 39h (R153). -/

namespace Sys2Proof.Machine

/-! ### What the window's bytes are (R150, R152) -/

theorem windowAt_zero {s : State} (h : s.completion = [] ∨ s.emptyView = true) (a : Nat) : s.windowAt a = 0 := by
  refine if_pos ?_
  obtain h | h := h
  · rw [h]; rfl
  · rw [h, Bool.or_true]

theorem head_of_done {s : State} {i : SlotNo} {rest : List SlotNo} {r : Record} (hc : s.completion = i :: rest)
    (hs : s.slot i = .done r) : s.head = some (i, r) := by
  unfold State.head
  rw [hc]
  dsimp only
  rw [hs]

section Head

variable {s : State} {i : SlotNo} {rest : List SlotNo} {r : Record}

/-- The bytes of the head record, the two high bytes through their shadows (R150, R172). -/
theorem windowAt_head (hc : s.completion = i :: rest) (hs : s.slot i = .done r) (he : s.emptyView = false) (a : Nat) :
    s.windowAt a =
      match a with
      | 0x35 => s.shadowFinal.getD (highByte r.position)
      | 0x37 => s.shadowDriven.getD (highByte r.driven)
      | _ => r.byteAt i a := by
  unfold State.windowAt
  rw [if_neg (by rw [hc, he]; exact Bool.false_ne_true), head_of_done hc hs]
  rfl

end Head

theorem window_toNat {a : Addr} (h : 0x30 ≤ a ∧ a ≤ 0x39) : 0x30 ≤ a.toNat ∧ a.toNat ≤ 0x39 := h

theorem inWindow_of {a : Nat} (h : 0x30 ≤ a ∧ a ≤ 0x39) : inWindow a = true := by
  rw [inWindow, decide_eq_true h.1, decide_eq_true h.2]
  rfl

theorem peek_window {a : Addr} (s : State) (h : 0x30 ≤ a ∧ a ≤ 0x39) : s.peek a = s.windowAt a.toNat := by
  have h := window_toNat h
  unfold State.peek
  dsimp only
  rw [if_neg (by omega), if_neg (by omega), if_neg (by omega), if_neg (by omega), if_neg (by omega),
    if_neg (by omega), if_neg (by omega), if_pos (inWindow_of h)]

/-- Without a record to show, or under the empty view, a window byte is captured as zeros (R152). -/
theorem capture_window_zero {a : Addr} {s : State} (ha : 0x30 ≤ a ∧ a ≤ 0x39)
    (h : s.completion = [] ∨ s.emptyView = true) : (s.capture a).value = 0 ∧ (s.capture a).high = 0 := by
  refine ⟨(peek_window s ha).trans (windowAt_zero h _), ?_⟩
  have ha := window_toNat ha
  have hzero (t : State) (hc : t.completion = s.completion) (hv : t.emptyView = s.emptyView) (b : Nat) :
      t.windowAt b = 0 := windowAt_zero (by rwa [hc, hv]) b
  change s.peekHigh a = 0
  unfold State.peekHigh
  split
  · rw [hzero s rfl rfl, hzero { s with shadowFinal := none } rfl rfl, ite_self]
  · rw [hzero s rfl rfl, hzero { s with shadowDriven := none } rfl rfl, ite_self]
  · next h50 => omega
  · rfl

theorem capture_empty_iff {a : Addr} {s : State} (ha : 0x30 ≤ a ∧ a ≤ 0x39) :
    (s.capture a).empty = true ↔ s.completion = [] := by
  have he : (s.capture a).empty = (inWindow a.toNat && s.completion.isEmpty) := rfl
  rw [he, inWindow_of (window_toNat ha), Bool.true_and, List.isEmpty_iff]

/-! ### Where the next byte is captured (R152, R169) -/

theorem captured_ext {x y : Captured} (hv : x.value = y.value) (hh : x.high = y.high) (he : x.empty = y.empty) :
    x = y := by
  cases x
  cases y
  subst hv hh he
  rfl

/-- The zeros that a capture places in the shadows are not seen in the byte captured (R152). -/
theorem capture_beginRead (a : Addr) (s : State) : (s.beginRead a).capture a = s.capture a := by
  by_cases he : s.emptyView = true
  · by_cases ha : a = 0x34 ∨ a = 0x36
    · have hwin : 0x30 ≤ a ∧ a ≤ 0x39 := by
        obtain rfl | rfl := ha
        all_goals decide
      obtain ⟨hv, hh⟩ := capture_window_zero hwin (.inr he)
      obtain ⟨hv', hh'⟩ := capture_window_zero (s := s.beginRead a) hwin (.inr he)
      have hempty : ((s.beginRead a).capture a).empty = (s.capture a).empty := rfl
      exact captured_ext (hv'.trans hv.symm) (hh'.trans hh.symm) hempty
    · rw [beginRead_plain s a (fun h => ha (.inl h)) fun h => ha (.inr h)]
      rfl
  · rw [beginRead_view s a (by simpa using he)]
    rfl

/-! ### The plain read (R169) -/

theorem readEffect_plain {a : Addr} {c : Captured} {s : State} (h : ¬ (0x30 ≤ a ∧ a ≤ 0x39)) (h50 : a ≠ 0x50) :
    s.readEffect a c = s := by
  have hne (b : Addr) (hb : 0x30 ≤ b ∧ b ≤ 0x39) : a ≠ b := fun he => h (he ▸ hb)
  have hwin : inWindow a.toNat = false := by
    refine not_inWindow ?_
    rw [BitVec.le_def, BitVec.le_def] at h
    change ¬ (0x30 ≤ a.toNat ∧ a.toNat ≤ 0x39) at h
    omega
  have hview : s.viewRead a c = s := if_neg (by rw [hwin]; exact Bool.false_ne_true)
  rw [State.readEffect, hview, State.fillShadow, if_neg (hne 0x34 (by decide)), if_neg (hne 0x36 (by decide)),
    if_neg h50]
  exact if_neg (hne 0x39 (by decide))

theorem sdo_read {s : State} {a : Addr} {c : Captured} (h : s.Reading a c) (ha : a ≠ 0x03) :
    s.sdo = some c.value := by
  rw [State.sdo, h.2]
  exact congrArg some (if_neg ha)

theorem sdo_flags {s : State} {c : Captured} (h : s.Reading 0x03 c) : s.sdo = some (s.flagByte c.value) := by
  rw [State.sdo, h.2]
  rfl

theorem flagByte_cases (s : State) (b : Byte) :
    s.flagByte b = b ∨ s.flagByte b = b ||| (s.eventFlags >>> 8).setWidth 8 := by
  unfold State.flagByte
  dsimp only
  split
  · exact .inr rfl
  · exact .inl rfl

/-- The flags captured at 03h are in the byte already (R157). -/
theorem flagByte_captured (s : State) : s.flagByte (highByte s.eventFlags) = highByte s.eventFlags := by
  unfold State.flagByte
  dsimp only
  rw [BitVec.or_self, ite_self]

/-- Settles O14. -/
theorem plainReadAdvances : Obligations.PlainReadAdvances := by
  intro v a c s h
  have hexec : exec (.registerWrite v) s = .next (s.readEffect a c).advance := dataByte_read v s a c h
  refine ⟨fun hwin h50 => ?_, fun ha => ?_, ?_, ?_, sdo_read h, ?_, ?_⟩
  · have h33 : a + 1 ≠ 0x34 ∧ a + 1 ≠ 0x36 := by
      refine ⟨fun he => hwin ?_, fun he => hwin ?_⟩
      · obtain rfl : a = 0x33 := add_right_cancel he
        decide
      · obtain rfl : a = 0x35 := add_right_cancel he
        decide
    rw [hexec, readEffect_plain hwin h50, advance_read s s a c h rfl, beginRead_plain s _ h33.1 h33.2]
  · exact hexec.trans (readRow_at isWindowRead a c s h ((isWindowRead_iff a).2 ha)).symm
  · rintro rfl
    exact hexec.trans (readRow_at (· == 0x39) 0x39 c s h rfl).symm
  · rintro rfl
    exact hexec.trans (readRow_at (· == 0x50) 0x50 c s h rfl).symm
  · rintro rfl
    rw [sdo_flags h]
    exact (flagByte_cases s c.value).imp (congrArg some) (congrArg some)
  · rintro rfl hc
    rw [sdo_flags h, hc]
    exact congrArg some (flagByte_captured s)

/-! ### The window read (R152, R172) -/

/-- The state when a window byte but 39h has been read, before the next byte is captured. -/
def State.windowRead (s : State) (a : Addr) (c : Captured) : State :=
  { s with
    emptyView := s.emptyView || c.empty
    shadowFinal := if a = 0x34 then some c.high else s.shadowFinal
    shadowDriven := if a = 0x36 then some c.high else s.shadowDriven }

theorem viewRead_window {a : Addr} (s : State) (c : Captured) (h : 0x30 ≤ a ∧ a ≤ 0x39) :
    s.viewRead a c = { s with emptyView := s.emptyView || c.empty } := by
  rw [State.viewRead, inWindow_of (window_toNat h), Bool.true_and]
  cases c.empty
  · rw [Bool.or_false]
    rfl
  · rw [Bool.or_true]
    rfl

theorem readEffect_window {a : Addr} (s : State) (c : Captured) (h : 0x30 ≤ a ∧ a ≤ 0x38) :
    s.readEffect a c = s.windowRead a c := by
  have h50 : a ≠ 0x50 := by rintro rfl; exact absurd h (by decide)
  have h39 : a ≠ 0x39 := by rintro rfl; exact absurd h (by decide)
  rw [State.readEffect, viewRead_window s c ⟨h.1, BitVec.le_trans h.2 (by decide : (0x38 : Addr) ≤ 0x39)⟩]
  refine (if_neg h39).trans ?_
  unfold State.fillShadow State.windowRead
  by_cases h34 : a = 0x34
  · subst h34
    rfl
  · rw [if_neg h34, if_neg h34]
    by_cases h36 : a = 0x36
    · rw [if_pos h36, if_pos h36]
    · rw [if_neg h36, if_neg h36, if_neg h50]

theorem exec_windowRead {a : Addr} {s : State} {c : Captured} (h : s.Reading a c) (ha : 0x30 ≤ a ∧ a ≤ 0x38) :
    exec .completionWindowRead s = .next ((s.windowRead a c).beginRead (a + 1)) := by
  refine (readRow_at isWindowRead a c s h ((isWindowRead_iff a).2 ha)).trans ?_
  rw [readEffect_window s c ha, advance_read s (s.windowRead a c) a c h rfl]

theorem viewed_iff (s : State) (c : Captured) :
    (s.emptyView || c.empty) = true ↔ s.emptyView = true ∨ c.empty = true := Bool.or_eq_true _ _ ▸ Iff.rfl

/-- The shadows after a window byte has been read and the next one captured (R152, R172). -/
theorem shadows_windowRead (s : State) (a : Addr) (c : Captured) :
    ((s.windowRead a c).beginRead (a + 1)).shadowFinal =
        (if (s.emptyView = true ∨ c.empty = true) ∧ a = 0x33 then some 0
         else if a = 0x34 then some c.high else s.shadowFinal) ∧
      ((s.windowRead a c).beginRead (a + 1)).shadowDriven =
        (if (s.emptyView = true ∨ c.empty = true) ∧ a = 0x35 then some 0
         else if a = 0x36 then some c.high else s.shadowDriven) := by
  have h33 : a + 1 = 0x34 ↔ a = 0x33 := ⟨fun h => add_right_cancel (b := 1) h, fun h => by rw [h]; rfl⟩
  have h35 : a + 1 = 0x36 ↔ a = 0x35 := ⟨fun h => add_right_cancel (b := 1) h, fun h => by rw [h]; rfl⟩
  have hview : (s.windowRead a c).emptyView = true ↔ s.emptyView = true ∨ c.empty = true := viewed_iff s c
  refine ⟨?_, ?_⟩
  · simp only [State.beginRead, hview, h33]
    rfl
  · simp only [State.beginRead, hview, h35]
    rfl

/-! ### The high byte captured with a low byte (R151, R172) -/

section Captures

variable {s : State} {i : SlotNo} {rest : List SlotNo} {r : Record}

theorem capture_lowBytes (hc : s.completion = i :: rest) (hs : s.slot i = .done r) (he : s.emptyView = false) :
    (s.capture 0x34).value = lowByte r.position ∧ (s.capture 0x36).value = lowByte r.driven :=
  ⟨windowAt_head hc hs he 0x34, windowAt_head hc hs he 0x36⟩

theorem capture_highBytes (hc : s.completion = i :: rest) (hs : s.slot i = .done r) (he : s.emptyView = false) :
    (s.capture 0x35).value = s.shadowFinal.getD (highByte r.position) ∧
      (s.capture 0x37).value = s.shadowDriven.getD (highByte r.driven) :=
  ⟨windowAt_head hc hs he 0x35, windowAt_head hc hs he 0x37⟩

/-- The high byte of the same value, or, where the part keeps it, the valid shadow (R151, R172, log 15). -/
theorem capture_high_final (hc : s.completion = i :: rest) (hs : s.slot i = .done r) (he : s.emptyView = false) :
    (s.capture 0x34).high = highByte r.position ∨ s.shadowFinal = some (s.capture 0x34).high := by
  have hhigh : (s.capture 0x34).high =
      if s.shadowFinal.isSome && Config.wrapShowsRemoved then s.windowAt 0x35
      else ({ s with shadowFinal := none } : State).windowAt 0x35 := rfl
  rw [hhigh]
  split
  · next hv =>
    obtain ⟨b, hb⟩ := Option.isSome_iff_exists.1 (Bool.and_eq_true_iff.1 hv).1
    rw [windowAt_head hc hs he, hb]
    exact .inr rfl
  · exact .inl (windowAt_head (s := { s with shadowFinal := none }) hc hs he 0x35)

theorem capture_high_driven (hc : s.completion = i :: rest) (hs : s.slot i = .done r) (he : s.emptyView = false) :
    (s.capture 0x36).high = highByte r.driven ∨ s.shadowDriven = some (s.capture 0x36).high := by
  have hhigh : (s.capture 0x36).high =
      if s.shadowDriven.isSome && Config.wrapShowsRemoved then s.windowAt 0x37
      else ({ s with shadowDriven := none } : State).windowAt 0x37 := rfl
  rw [hhigh]
  split
  · next hv =>
    obtain ⟨b, hb⟩ := Option.isSome_iff_exists.1 (Bool.and_eq_true_iff.1 hv).1
    rw [windowAt_head hc hs he, hb]
    exact .inr rfl
  · exact .inl (windowAt_head (s := { s with shadowDriven := none }) hc hs he 0x37)

/-- The high byte captured after the read of 34h or 36h is the one captured with it (R172). -/
theorem capture_after_lowByte {c : Captured} (hc : s.completion = i :: rest) (hs : s.slot i = .done r)
    (he : s.emptyView = false) (hempty : c.empty = false) :
    (((s.windowRead 0x34 c).beginRead 0x35).capture 0x35).value = c.high ∧
      (((s.windowRead 0x36 c).beginRead 0x37).capture 0x37).value = c.high := by
  have hview (a : Addr) : (s.windowRead a c).emptyView = false := by
    rw [State.windowRead, he, hempty]
    rfl
  rw [capture_beginRead, capture_beginRead]
  exact ⟨(capture_highBytes (s := s.windowRead 0x34 c) hc hs (hview _)).1,
    (capture_highBytes (s := s.windowRead 0x36 c) hc hs (hview _)).2⟩

end Captures

theorem readEffect_position (s : State) (c : Captured) :
    s.readEffect 0x50 c = { s with shadowPosition := some c.high } := rfl

theorem exec_positionRead_at {s : State} {c : Captured} (h : s.Reading 0x50 c) :
    exec .positionRead s = .next { s with
      shadowPosition := some c.high
      port := .data false 0x51 (({ s with shadowPosition := some c.high } : State).capture 0x51) } := by
  refine (readRow_at (· == 0x50) 0x50 c s h rfl).trans ?_
  rw [readEffect_position, advance_read s { s with shadowPosition := some c.high } 0x50 c h rfl]
  exact congrArg _ (beginRead_plain _ 0x51 (by decide) (by decide))

/-- Where the shadow is valid already, the low byte is captured with the live high byte or with the shadow (log 15). -/
theorem captured_with_shadow {s : State} {i : SlotNo} {rest : List SlotNo} {r : Record} {b : Byte} {c : Captured}
    (hc : s.completion = i :: rest) (hs : s.slot i = .done r) (he : s.emptyView = false) :
    (c = s.capture 0x34 → s.shadowFinal = some b → c.value = lowByte r.position ∧
        ((((s.windowRead 0x34 c).beginRead 0x35).capture 0x35).value = highByte r.position ∨
          (((s.windowRead 0x34 c).beginRead 0x35).capture 0x35).value = b)) ∧
      (c = s.capture 0x36 → s.shadowDriven = some b → c.value = lowByte r.driven ∧
        ((((s.windowRead 0x36 c).beginRead 0x37).capture 0x37).value = highByte r.driven ∨
          (((s.windowRead 0x36 c).beginRead 0x37).capture 0x37).value = b)) := by
  have hempty {a : Addr} (ha : 0x30 ≤ a ∧ a ≤ 0x39) : (s.capture a).empty = false := by
    rw [← Bool.not_eq_true, capture_empty_iff ha, hc]
    exact nofun
  refine ⟨?_, ?_⟩
  · rintro rfl hb
    refine ⟨(capture_lowBytes hc hs he).1, ?_⟩
    rw [(capture_after_lowByte hc hs he (hempty (by decide))).1]
    exact (capture_high_final hc hs he).imp id fun h => Option.some.inj (h.symm.trans hb)
  · rintro rfl hb
    refine ⟨(capture_lowBytes hc hs he).2, ?_⟩
    rw [(capture_after_lowByte hc hs he (hempty (by decide))).2]
    exact (capture_high_driven hc hs he).imp id fun h => Option.some.inj (h.symm.trans hb)

/-- Settles O15. -/
theorem readsSetViewAndShadow : Obligations.ReadsSetViewAndShadow := by
  refine ⟨fun a c s h ha => ?_, fun c s h => ⟨_, exec_positionRead_at h, rfl, rfl, rfl⟩,
    fun s => ⟨rfl, rfl, fun hn => ?_⟩, fun i rest r s hc hs he => ?_, fun a s ha =>
      ⟨capture_empty_iff ha, capture_window_zero ha⟩⟩
  · obtain ⟨hfinal, hdriven⟩ := shadows_windowRead s a c
    refine ⟨_, exec_windowRead h ha, rfl, ?_, ?_, ?_, ?_, ?_, ?_, ?_, fun i rest r hc hs he hempty => ⟨?_, ?_⟩,
      fun i rest r b hc hs he hcap => ⟨?_, ?_⟩⟩
    · rw [capture_beginRead]
      rfl
    · rintro rfl
      rw [hfinal, if_neg fun hv => absurd hv.2 (by decide), if_pos rfl]
    · rintro rfl hv
      exact hfinal.trans (if_pos ⟨hv, rfl⟩)
    · intro h34 h33
      rw [hfinal, if_neg fun hv => h33 ⟨hv.2, hv.1⟩, if_neg h34]
    · rintro rfl
      rw [hdriven, if_neg fun hv => absurd hv.2 (by decide), if_pos rfl]
    · rintro rfl hv
      exact hdriven.trans (if_pos ⟨hv, rfl⟩)
    · intro h36 h35
      rw [hdriven, if_neg fun hv => h35 ⟨hv.2, hv.1⟩, if_neg h36]
    · rintro rfl
      exact (capture_after_lowByte hc hs he hempty).1
    · rintro rfl
      exact (capture_after_lowByte hc hs he hempty).2
    · rintro rfl hb
      exact (captured_with_shadow hc hs he).1 hcap hb
    · rintro rfl hb
      exact (captured_with_shadow hc hs he).2 hcap hb
  · have hvalue : (s.capture 0x51).value = s.shadowPosition.getD (highByte (s.act s.actSel).position) := rfl
    rw [hvalue, hn]
    rfl
  · obtain ⟨hp, hd⟩ := capture_lowBytes hc hs he
    obtain ⟨hhp, hhd⟩ := capture_highBytes hc hs he
    refine ⟨hp, hd, capture_high_final hc hs he, capture_high_driven hc hs he, fun b hb => ?_, fun hn => ?_,
      fun b hb => ?_, fun hn => ?_⟩
    · rw [hhp, hb]
      rfl
    · rw [hhp, hn]
      rfl
    · rw [hhd, hb]
      rfl
    · rw [hhd, hn]
      rfl

/-! ### The removal at 39h (R45, R153) -/

theorem pop_nothing {s : State} (h : s.emptyView = true ∨ s.completion = []) : s.pop = s := by
  unfold State.pop
  split
  · rfl
  · next hv =>
    rw [h.resolve_left hv]

theorem pop_head {s : State} {i : SlotNo} {rest : List SlotNo} (he : s.emptyView = false)
    (hc : s.completion = i :: rest) : s.pop = s.removeHead i rest := by
  unfold State.pop
  rw [if_neg (by rw [he]; exact Bool.false_ne_true), hc]
  rfl

theorem exec_completionPop_at {s u : State} {c : Captured} (h : s.Reading 0x39 c)
    (hu : ({ s with emptyView := s.emptyView || c.empty } : State).pop = u) :
    exec .completionPop s = .next { u with port := .data false 0x3A (u.capture 0x3A) } := by
  have hread : s.readEffect 0x39 c = u := by
    rw [State.readEffect, viewRead_window s c (by decide)]
    exact hu
  have hport : u.port = s.port := by
    rw [← hu]
    exact (standsAs_pop { s with emptyView := s.emptyView || c.empty }).1
  refine (readRow_at (· == 0x39) 0x39 c s h rfl).trans ?_
  rw [hread, advance_read s u 0x39 c h hport]
  exact congrArg _ (beginRead_plain u 0x3A (by decide) (by decide))

/-- The completion level counts the removed record no more (R156). -/
theorem level_removeHead {s : State} {i : SlotNo} {rest : List SlotNo} (hp : s.PoolLaw)
    (hc : s.completion = i :: rest) :
    s.level = (s.removeHead i rest).level + if (s.slot i).notified then 1 else 0 := by
  obtain ⟨-, hnodup, -, -⟩ := hp
  rw [hc, List.nodup_cons] at hnodup
  have hrest : (s.removeHead i rest).level = rest.countP fun j => (s.slot j).notified := by
    refine List.countP_congr fun j hj => ?_
    have hij : i ≠ j := by
      rintro rfl
      exact hnodup.1 hj
    rw [slot_removeHead, if_neg hij]
  rw [hrest, State.level, hc, List.countP_cons]

/-- Settles O16. -/
theorem popFreesTheHead : Obligations.PopFreesTheHead := by
  intro c s h
  refine ⟨fun hno => ⟨_, exec_completionPop_at h (pop_nothing ?_), rfl⟩, fun i rest hempty he hc => ?_⟩
  · rw [Bool.or_eq_true]
    obtain hno | hno | hno := hno
    · exact .inl (.inr hno)
    · exact .inl (.inl hno)
    · exact .inr hno
  · have hview : ({ s with emptyView := s.emptyView || c.empty } : State) = s := by
      rw [he, hempty, Bool.or_false, ← he]
    have hpop := (congrArg State.pop hview).trans (pop_head he hc)
    refine ⟨_, exec_completionPop_at h hpop, rfl, rfl, ?_, fun j hj => ?_, fun hp => level_removeHead hp hc⟩
    · exact (slot_removeHead s i i rest).trans (if_pos rfl)
    · exact (slot_removeHead s i j rest).trans (if_neg hj.symm)

end Sys2Proof.Machine
end

section
/-! PROOF. What the register window shows, byte by byte (R3, R37, R60, R61, R150, R174, R175), and the codes. -/

namespace Sys2Proof.Machine

/-! ### Fields of a byte put together: or as sum (R174) -/

theorem kindActByte_eq (k : Kind) (a : ActNo) : kindActByte k a = k.code * 16 + BitVec.ofNat 8 a.val := by
  revert a
  cases k <;> decide

theorem passByte_eq (held ext : Bool) (pass : BitVec 4) :
    passByte held ext pass = (if held then 32 else 0) + (if ext then 16 else 0) + pass.setWidth 8 := by
  revert held ext pass
  decide

theorem validity_or_stray (valid : Bool) (x : Byte) :
    bitAt valid 7 ||| (if 127 < x then 127 else x) = (if valid then 128 else 0) + if 127 < x then 127 else x := by
  revert valid x
  decide

theorem nibbles_or_eq_add (high low : Fin 16) :
    (BitVec.ofNat 8 high.val <<< 4 ||| BitVec.ofNat 8 low.val).toNat = 16 * high.val + low.val := by
  revert high low
  decide

theorem global_or_eq_add (grant hold running : Bool) (thermal : Fin 4) (supply : Fin 3) :
    bitAt grant 6 ||| (BitVec.ofNat 8 thermal.val <<< 4) ||| (BitVec.ofNat 8 supply.val <<< 2) ||| bitAt hold 1 |||
        bitAt running 0 =
      (if running then 1 else 0) + (if hold then 2 else 0) + BitVec.ofNat 8 supply.val * 4 +
        BitVec.ofNat 8 thermal.val * 16 + if grant then 64 else 0 := by
  revert grant hold running thermal supply
  decide

theorem drive_or_eq_add (i : SlotNo) (code : Fin 8) :
    (BitVec.ofNat 8 i.val <<< 4) ||| 0x08 ||| BitVec.ofNat 8 code.val =
      BitVec.ofNat 8 i.val * 16 + 8 + BitVec.ofNat 8 code.val := by
  revert i code
  decide

theorem returns_or_eq_add (n : Fin 6) (code : Fin 8) :
    (BitVec.ofNat 8 n.val <<< 4) ||| BitVec.ofNat 8 code.val = BitVec.ofNat 8 n.val * 16 + BitVec.ofNat 8 code.val := by
  revert n code
  decide

theorem thermal_code_small (x : Thermal) : ∃ n : Fin 4, x.code = BitVec.ofNat 8 n.val := by
  cases x
  · exact ⟨0, rfl⟩
  · exact ⟨1, rfl⟩
  · exact ⟨2, rfl⟩
  · exact ⟨3, rfl⟩

theorem supply_code_small (x : Supply) : ∃ n : Fin 3, x.code = BitVec.ofNat 8 n.val := by
  cases x
  · exact ⟨0, rfl⟩
  · exact ⟨1, rfl⟩
  · exact ⟨2, rfl⟩

theorem leg_code_small (x : LegState) : ∃ n : Fin 8, x.code = BitVec.ofNat 8 n.val := by
  cases x
  · exact ⟨0, rfl⟩
  · exact ⟨1, rfl⟩
  · exact ⟨2, rfl⟩
  · exact ⟨3, rfl⟩
  · exact ⟨4, rfl⟩
  · exact ⟨5, rfl⟩
  · exact ⟨6, rfl⟩

/-! ### The global bytes and the legs (R37, R60, R175) -/

theorem globalByte_eq (s : State) :
    s.globalByte =
      (if s.running then 1 else 0) + (if s.holdOn then 2 else 0) + s.supply.code * 4 + s.thermal.code * 16 +
        if s.grant.isSome then 64 else 0 := by
  obtain ⟨t, ht⟩ := thermal_code_small s.thermal
  obtain ⟨p, hp⟩ := supply_code_small s.supply
  rw [State.globalByte, ht, hp]
  exact global_or_eq_add _ _ _ t p

theorem countsByte_toNat (high low : Nat) : (countsByte high low).toNat = 16 * min 15 high + min 15 low :=
  nibbles_or_eq_add ⟨min 15 high, by omega⟩ ⟨min 15 low, by omega⟩

theorem legAddr_toNat (k : LegNo) : ((0x10 : Addr) + BitVec.ofNat 7 k.val).toNat = 0x10 + k.val := by
  revert k
  decide

theorem peek_leg (s : State) (k : LegNo) : s.peek (0x10 + BitVec.ofNat 7 k.val) = (s.leg k).statusByte := by
  have hk := k.isLt
  have hleg : legAt (0x10 + k.val) = k := by
    revert k
    decide
  have haddr := legAddr_toNat k
  unfold State.peek
  dsimp only
  rw [if_neg (by omega), if_pos (by omega), haddr, hleg]

theorem statusByte_drive {l : Leg} {i : SlotNo} (h : l.claims = [⟨i, .drive⟩]) :
    l.statusByte = BitVec.ofNat 8 i.val * 16 + 8 + l.state.code := by
  obtain ⟨n, hn⟩ := leg_code_small l.state
  have howner : l.driveOwner = some i := by
    rw [Leg.driveOwner, h]
    rfl
  rw [Leg.statusByte, howner, hn]
  exact drive_or_eq_add i n

theorem statusByte_returns {l : Leg} (h : ∀ c ∈ l.claims, c.type = .ret) (hlen : l.claims.length ≤ 5) :
    l.statusByte = BitVec.ofNat 8 l.claims.length * 16 + l.state.code := by
  obtain ⟨n, hn⟩ := leg_code_small l.state
  have howner : l.driveOwner = none := by
    rw [Leg.driveOwner, Option.map_eq_none_iff, List.find?_eq_none]
    intro c hc
    rw [h c hc]
    exact Bool.false_ne_true
  have hcount : l.returnCount = l.claims.length :=
    List.countP_eq_length.2 fun c hc => by rw [h c hc]; rfl
  rw [Leg.statusByte, howner, hcount, hn]
  exact returns_or_eq_add ⟨l.claims.length, by omega⟩ n

/-- A byte put together from one bit per leg (R37). -/
theorem foldl_bitAt_getLsbD (f : LegNo → Bool) {n : Nat} (hn : n < 8) (ks : List LegNo) :
    ∀ b : Byte, (ks.foldl (fun b k => b ||| bitAt (f k) k.val) b).getLsbD n =
      (b.getLsbD n || ks.any fun k => f k && decide (k.val = n)) := by
  induction ks with
  | nil => exact fun b => (Bool.or_false _).symm
  | cons k ks ih =>
    intro b
    rw [List.foldl_cons, ih, BitVec.getLsbD_or, bitAt_getLsbD _ _ hn, List.any_cons, Bool.or_assoc]

theorem offMask_getLsbD (s : State) {n : Nat} (hn : n < 8) :
    s.offMask.getLsbD n = (List.finRange 6).any fun k => ((s.leg k).state == .off) && decide (k.val = n) := by
  rw [State.offMask, foldl_bitAt_getLsbD (fun k => (s.leg k).state == .off) hn]
  simp

theorem offMask_leg_iff (s : State) (k : LegNo) : s.offMask.getLsbD k.val = true ↔ (s.leg k).state = .off := by
  rw [offMask_getLsbD s (by omega), List.any_eq_true]
  refine ⟨?_, fun h => ⟨k, List.mem_finRange k, by rw [h]; simp⟩⟩
  rintro ⟨j, -, hj⟩
  obtain ⟨hoff, hjk⟩ := Bool.and_eq_true_iff.1 hj
  obtain rfl : j = k := Fin.ext (of_decide_eq_true hjk)
  exact beq_iff_eq.1 hoff

theorem offMask_high (s : State) {n : Nat} (hn : n < 8) (h6 : 6 ≤ n) : s.offMask.getLsbD n = false := by
  rw [offMask_getLsbD s hn, List.any_eq_false]
  intro k _
  rw [decide_eq_false (by omega), Bool.and_false]
  exact Bool.false_ne_true

/-! ### The selected slot (R61) -/

theorem peek_selected {s : State} {x : SlotState} (h : s.slot s.slotSel = x) :
    s.peek 0x3B = x.stateByte ∧ s.peek 0x3C = x.kindByte ∧ s.peek 0x3D = x.tagByte ∧ s.peek 0x3E = x.dutyByte ∧
      s.peek 0x3F = x.passExtByte := by
  subst h
  exact ⟨rfl, rfl, rfl, rfl, rfl⟩

theorem selected_cases {a : Addr} (h : 0x3B ≤ a ∧ a ≤ 0x3F) :
    a = 0x3B ∨ a = 0x3C ∨ a = 0x3D ∨ a = 0x3E ∨ a = 0x3F := by
  revert a
  decide

theorem peek_selected_free {s : State} (h : s.slot s.slotSel = .free) {a : Addr} (ha : 0x3B ≤ a ∧ a ≤ 0x3F) :
    s.peek a = 0 := by
  obtain ⟨hstate, hkind, htag, hduty, hpass⟩ := peek_selected h
  obtain rfl | rfl | rfl | rfl | rfl := selected_cases ha
  · exact hstate
  · exact hkind
  · exact htag
  · exact hduty
  · exact hpass

theorem stateByte_active (o : Order) (m : Move) : (SlotState.active o m).stateByte = 0x20 + m.phase.code := by
  rw [SlotState.stateByte]
  cases m.phase <;> rfl

theorem dutyByte_shown {o : Order} {m : Move} (hd : m.phase.driving = true) (he : m.extHeld = false) :
    (SlotState.active o m).dutyByte = m.duty := by
  rw [SlotState.dutyByte, hd, he]
  rfl

theorem dutyByte_hidden {o : Order} {m : Move} (h : m.phase.driving = false ∨ m.extHeld = true) :
    (SlotState.active o m).dutyByte = 0 := by
  rw [SlotState.dutyByte]
  obtain h | h := h
  · rw [h]
    rfl
  · rw [h, Bool.not_true, Bool.and_false]
    rfl

theorem passByte_free (ext : Bool) (pass : BitVec 4) :
    passByte false ext pass = (if ext then 16 else 0) + pass.setWidth 8 := by
  rw [passByte_eq, if_neg Bool.false_ne_true, zero_add]

/-! ### The head record (R150) -/

theorem peek_head {s : State} {i : SlotNo} {rest : List SlotNo} {r : Record} (hc : s.completion = i :: rest)
    (hs : s.slot i = .done r) (he : s.emptyView = false) (hf : s.shadowFinal = none) (hd : s.shadowDriven = none)
    {a : Addr} (ha : 0x30 ≤ a ∧ a ≤ 0x39) : s.peek a = r.byteAt i a.toNat := by
  rw [peek_window s ha, windowAt_head hc hs he, hf, hd]
  split
  · next h => rw [h]; rfl
  · next h => rw [h]; rfl
  · rfl

theorem peek_window_zero {s : State} (h : s.completion = [] ∨ s.emptyView = true) {a : Addr}
    (ha : 0x30 ≤ a ∧ a ≤ 0x39) : s.peek a = 0 :=
  (peek_window s ha).trans (windowAt_zero h _)

/-- Settles O17. -/
theorem windowShowsTheState : Obligations.WindowShowsTheState := by
  refine ⟨fun i rest r s hc hs he hf hd => ?_, fun a s ha h => peek_window_zero h ha, globalByte_eq,
    fun s => ⟨countsByte_toNat _ _, countsByte_toNat _ _⟩,
    fun k i s h => (peek_leg s k).trans (statusByte_drive h),
    fun k s h hlen => (peek_leg s k).trans (statusByte_returns h hlen), fun k s => offMask_leg_iff s k,
    fun s => ⟨offMask_high s (by decide) (by decide), offMask_high s (by decide) (by decide)⟩,
    fun s h a ha => peek_selected_free h ha, fun o s h => ?_, fun o n s h => ?_, fun r s h => ?_, fun s => ?_,
    fun o m s h => ?_, rfl, rfl, rfl, rfl, fun _ _ => rfl, rfl, ⟨rfl, rfl, fun _ => rfl⟩, rfl, rfl, rfl⟩
  · have hbyte {a : Addr} (ha : 0x30 ≤ a ∧ a ≤ 0x39) := peek_head hc hs he hf hd ha
    refine ⟨hbyte (by decide), hbyte (by decide), ?_, hbyte (by decide), hbyte (by decide), hbyte (by decide),
      hbyte (by decide), hbyte (by decide), hbyte (by decide), hbyte (by decide)⟩
    exact (hbyte (a := 0x32) (by decide)).trans (kindActByte_eq _ _)
  · obtain ⟨hstate, hkind, htag, hduty, hpass⟩ := peek_selected h
    exact ⟨hstate, hkind.trans (kindActByte_eq _ _), htag, hduty, hpass.trans (passByte_free _ _)⟩
  · obtain ⟨hstate, hkind, htag, hduty, hpass⟩ := peek_selected h
    exact ⟨hstate, hkind.trans (kindActByte_eq _ _), htag, hduty, hpass.trans (passByte_free _ _)⟩
  · obtain ⟨hstate, hkind, htag, hduty, hpass⟩ := peek_selected h
    exact ⟨hstate, hkind.trans (kindActByte_eq _ _), htag, hduty, hpass.trans (passByte_free _ _)⟩
  · refine ⟨validity_or_stray _ _, fun h => ?_, fun i h => ?_, fun i h => ?_, rfl, rfl, rfl, rfl⟩
    · exact congrArg slotOrNone h
    · exact congrArg slotOrNone h
    · exact congrArg slotOrNone h
  · obtain ⟨hstate, hkind, htag, hduty, hpass⟩ := peek_selected h
    exact ⟨hstate.trans (stateByte_active o m), hkind.trans (kindActByte_eq _ _), htag,
      fun hd he => hduty.trans (dutyByte_shown hd he), fun hn => hduty.trans (dutyByte_hidden hn),
      hpass.trans (passByte_eq _ _ _)⟩

end Sys2Proof.Machine
end
